-- ==== Sys2Proof/Word.lean ====
section
/-! DEFINITION. The byte and the wider fields in which the TD-1256's frames and management requests carry their values (R169). Everything the manual counts (instants, offsets, rates, uncertainties) is an integer of the model, not a word: R6 makes all its arithmetic exact. -/

namespace Sys2Proof

/-- One byte of a frame (R169). -/
abbrev Byte := BitVec 8

/-- A rack, and the rack port that serves it: 0 to 11 (R74). -/
abbrev RackId := Fin 12

/-- A follower index: 0 to 255 (R51). -/
abbrev FollowerId := Fin 256

end Sys2Proof
end

