-- ==== Sys2Proof/Config.lean ====
section
/-! DEFINITION. The free values: what the manual leaves open. Each is an opaque constant applied to the counter `choices` of the state, so no proof can lean on a value, and every use takes a fresh one. -/

namespace Sys2Proof.Config

/-- Which of several time-driven events that fall at one instant is taken first (R27, R45, R67, R141, R142 and others: "either may be taken first"). DESIGN CHOICE, log entry 3. -/
opaque pickDue : Nat → Nat

/-- Whether the single boundary event of a forward step is taken before the step's epoch (R69, R150: "either may be taken first"). DESIGN CHOICE, log entry 5. -/
opaque boundaryFirst : Nat → Bool

/-- Whether the clearing of a fence inserted at stage 4 is taken before stage 5 of the same exchange (R138: "Either may be taken first"). DESIGN CHOICE, log entry 6. -/
opaque clearFirst : Nat → Bool

/-- The instant held where a rule's exact sum lies beyond 2^64 − 1 ns and no rule states the result (the next due of R80, the Pulse label of R39). DESIGN CHOICE, log entry 7. -/
opaque instantBeyondRange : Nat → BitVec 64

end Sys2Proof.Config
end

