-- ==== Sys2Proof/Machine/Arith.lean ====
section
/-! DEFINITION. Chapter 1's arithmetic (exact integers, named roundings, clamps, growth) and the byte order and frame check of Chapter 12. In every sum and product of the model the literal stands first, so that Lean's kernel, which unfolds a sum from its second term, never counts through one. -/

namespace Sys2Proof.Machine

/-! ## Constants of Chapter 1 -/

/-- U_MAX (R5). -/
def uMax : Nat := 4294967295

/-- The largest instant, 2^64 − 1 ns (R1). -/
def instantMax : Nat := 18446744073709551615

/-- The largest magnitude of a held offset, 2^40 − 1 ns (R3). -/
def offsetMax : Int := 1099511627775

/-- Units of 2^-32 ns in one nanosecond (R1). -/
def unitsPerNs : Nat := 4294967296

/-- The divisor that turns RU × ns into ns (R4). -/
def ruScale : Nat := 16000000000

/-- One second in ns. -/
def second : Nat := 1000000000

/-- The boundary spacing in ns (R29). -/
def boundarySpacing : Nat := 100000000

/-- The missing-mark interval in ns (R42). -/
def missingMarkInterval : Nat := 2500000000

/-- The high time of the second pulse in ns (R167). -/
def pulseHighTime : Nat := 1000000

/-- The transmit guard in ns of elapsed oscillator time (R93). -/
def transmitGuard : Nat := 400000

/-- The guard interval of a rate computation in ns (R104). -/
def rateGuard : Nat := 100000000

/-- The largest magnitude of a published rate, RU (R105). -/
def rateMax : Int := 1600000

/-- The largest magnitude of the frequency memory y, RU (R15). -/
def memoryMax : Int := 160000

/-- The largest magnitude of the steer s, RU (R15). -/
def steerMax : Int := 320000

/-! ## Rounding, clamping and saturation (R4, R6) -/

/-- Clamp a natural number into `lo` to `hi`. -/
def clampNat (lo hi v : Nat) : Nat := max lo (min v hi)

/-- Clamp an integer into `lo` to `hi`. -/
def clampInt (lo hi v : Int) : Int := max lo (min v hi)

/-- Clamp or saturate an integer to ±`m`. -/
def clampMag (m v : Int) : Int := clampInt (-m) m v

/-- The floor of R6: the greatest integer not above `a / b`, for a positive `b`. -/
def floorDiv (a : Int) (b : Nat) : Int := a / (b : Int)

/-- The ceil of R6 for non-negative `a` and positive `b`. -/
def ceilDiv (a b : Nat) : Nat := (b - 1 + a) / b

/-- The truncate of R6. -/
def truncDiv (a : Int) (b : Nat) : Int := Int.tdiv a (b : Int)

/-- The nearest of R6: halfway quotients round up. -/
def nearestDiv (a : Int) (b : Nat) : Int := floorDiv (2 * a + b) (2 * b)

/-- The growth amount of R7 at a wander of `w` RU over `d` ns. -/
def growth (w d : Nat) : Nat := ceilDiv (w * d) ruScale

/-- A sum of uncertainty terms, saturated at U_MAX (R5). -/
def saturateU (v : Nat) : Nat := min v uMax

/-- A held offset (R3). -/
def heldOffset (v : Int) : Int := clampMag offsetMax v

/-! ## Bytes (R169) -/

/-- The `n` bytes of `v`, most significant first. -/
def beBytes : Nat → Nat → List Byte
  | 0, _ => []
  | n + 1, v => BitVec.ofNat 8 (v / 256 ^ n) :: beBytes n v

/-- The `n` bytes of `v` in two's complement, most significant first. -/
def beInt (n : Nat) (v : Int) : List Byte := beBytes n (v % (256 ^ n : Nat)).toNat

/-- The number that bytes spell, most significant first. -/
def beNat (bytes : List Byte) : Nat := bytes.foldl (fun acc b => 256 * acc + b.toNat) 0

/-- A yes-or-no field (R175). -/
def boolByte (b : Bool) : Byte := if b then 1 else 0

/-! ## The frame check (R170) -/

/-- One bit of the cyclic check: generator x^16 + x^12 + x^5 + 1. -/
def crcShift (crc : BitVec 16) : BitVec 16 :=
  if crc.msb then (crc <<< 1) ^^^ 0x1021#16 else crc <<< 1

/-- One byte of the cyclic check, most significant bit first. -/
def crcByte (crc : BitVec 16) (b : Byte) : BitVec 16 :=
  crcShift <| crcShift <| crcShift <| crcShift <| crcShift <| crcShift <| crcShift <| crcShift <|
    crc ^^^ (b.setWidth 16 <<< 8)

/-- The frame check of the covered bytes: initial value all ones, no final inversion (R170). -/
def frameCheck (covered : List Byte) : BitVec 16 := covered.foldl crcByte 0xFFFF#16

/-- The two bytes of the frame check, most significant first. -/
def checkBytes (covered : List Byte) : List Byte := beBytes 2 (frameCheck covered).toNat

end Sys2Proof.Machine
end

