-- ==== Sys2Proof/Syntax.lean ====
section
/-! DEFINITION. The commands of the TD-1256: one constructor for each row of spec/opcode_table.json, with the operands the manual gives it. A management request carries its operand bytes as R174 lays them out; an event of a rack bus or of a reference input carries the port or the input and, where a frame is read, the bytes that followed its start delimiter. -/

namespace Sys2Proof

/-- The four reference inputs (R34), in the order of R174. -/
inductive Reference where
  | hallA | hallB | neighbour | pulse
deriving DecidableEq, Repr

/-- The three inputs on which mark frames arrive (R37). -/
inductive LinkInput where
  | hallA | hallB | neighbour
deriving DecidableEq, Repr

/-- The operand bytes that ENROL and AMEND-FOLLOWER share (R174). -/
structure FollowerOperands where
  kind : Byte
  periodClass : Byte
  reload : Byte
  wander : BitVec 16
  shift : Byte
  maxAge : BitVec 32
  flags : Byte
deriving DecidableEq, Repr

/-- The 51 bytes of rack fields of AMEND-RACK, in order (R174). -/
structure RackOperands where
  enabled : Byte
  replyWindow : BitVec 16
  asymmetry : BitVec 32
  baseError : BitVec 32
  delayCeiling : BitVec 32
  budgetReload : Byte
  trustOffset : BitVec 32
  faultLimit : Byte
  dateCeiling : BitVec 32
  rackPenalty : BitVec 32
  driftPolicy : Byte
  minMembers : Byte
  leanRate : BitVec 32
  excessRate : BitVec 32
  leanOffset : BitVec 32
  excessOffset : BitVec 32
  persistMain : Byte
  persistPrescale : Byte
  calmMain : Byte
  calmPrescale : Byte
deriving DecidableEq, Repr

/-- The seven fields of AMEND-ROW, in order (R174). -/
structure RowOperands where
  stepLimit : BitVec 32
  sanityLimit : BitVec 32
  urLimit : BitVec 32
  gain : Byte
  wander : BitVec 32
  horizon : Byte
  waitMax : BitVec 16
deriving DecidableEq, Repr

/-- The commands, in the order of spec/opcode_table.json. -/
inductive Instr where
  /-- POWER_ON_RESET (R11). -/
  | powerOnReset
  /-- WARM_UP_END (R16). -/
  | warmUpEnd
  /-- START_UP_INTERVAL_END (R160). -/
  | startUpIntervalEnd
  /-- MARK_DELIMITER_ARRIVAL (R10). -/
  | markDelimiterArrival (input : LinkInput)
  /-- LINK_MARK_RECEPTION_END (R38): `received` are the bytes that followed the start delimiter until the reception ended (R173). -/
  | linkMarkReceptionEnd (input : LinkInput) (received : List Byte)
  /-- PULSE_EDGE (R39). -/
  | pulseEdge
  /-- MISSING_MARK_EXPIRY (R42). -/
  | missingMarkExpiry (ref : Reference)
  /-- HOLDOVER_TO_FREE (R27). -/
  | holdoverToFree
  /-- BOUNDARY_EVENT (R29). -/
  | boundaryEvent
  /-- PERSISTENCE_EXPIRY (R153). -/
  | persistenceExpiry (rack : RackId)
  /-- CALM_EXPIRY (R154). -/
  | calmExpiry (rack : RackId)
  /-- SECOND_PULSE_WINDOW_START (R167). -/
  | secondPulseWindowStart
  /-- SECOND_PULSE_WINDOW_END (R167). -/
  | secondPulseWindowEnd
  /-- FENCE_CLEARING (R139): every fence that passes at the instant. -/
  | fenceClearing
  /-- FENCE_EXPIRY (R141) of the fence at a position of the list. -/
  | fenceExpiry (position : Fin 64)
  /-- FENCE_DROP (R142) of the fence at a position of the list. -/
  | fenceDrop (position : Fin 64)
  /-- ANNOUNCE_START (R84). -/
  | announceStart (port : RackId)
  /-- ANNOUNCE_END (R84). -/
  | announceEnd (port : RackId)
  /-- EXCHANGE_START (R79). -/
  | exchangeStart (port : RackId)
  /-- PROBE_END (R85). -/
  | probeEnd (port : RackId)
  /-- ECHO_MISMATCH (R91). -/
  | echoMismatch (port : RackId)
  /-- REPLY_WINDOW_EXPIRY (R85). -/
  | replyWindowExpiry (port : RackId)
  /-- REPLY_ARRIVAL (R99). -/
  | replyArrival (port : RackId)
  /-- REPLY_RECEPTION_END (R87): `received` are the bytes that followed the start delimiter until the reception ended (R86). -/
  | replyReceptionEnd (port : RackId) (received : List Byte)
  /-- VERDICT_END (R89). -/
  | verdictEnd (port : RackId)
  /-- UNSOLICITED_FRAME (R94). -/
  | unsolicitedFrame (port : RackId)
  /-- QUIET_FRAME (R96). -/
  | quietFrame (port : RackId)
  /-- QUIET_WINDOW_END (R96). -/
  | quietWindowEnd (port : RackId)
  /-- TRANSMIT_GUARD_TRIP (R93). -/
  | transmitGuardTrip (port : RackId)
  /-- ENROL (R54). -/
  | enrol (port slot : Byte) (fields : FollowerOperands)
  /-- AMEND_FOLLOWER (R56). -/
  | amendFollower (index presence : Byte) (fields : FollowerOperands)
  /-- MUTE (R57). -/
  | mute (index : Byte)
  /-- UNMUTE (R59). -/
  | unmute (index : Byte)
  /-- RETIRE (R60). -/
  | retire (index : Byte)
  /-- READ_FOLLOWER (R73). -/
  | readFollower (index : Byte)
  /-- FIND_FOLLOWER (R71). -/
  | findFollower (port slot : Byte)
  /-- FIND_NOTICED (R72). -/
  | findNoticed
  /-- ORDER (R114). -/
  | order (index kind : Byte)
  /-- READ_RACK (R97). -/
  | readRack (rack : Byte)
  /-- PORT_ENABLE (R76): an AMEND-RACK with enabled = 1, and whatever other fields the same request carries. -/
  | portEnable (rack : Byte) (presence : BitVec 24) (fields : RackOperands)
  /-- PORT_DISABLE (R77): an AMEND-RACK with enabled = 0, and whatever other fields the same request carries. -/
  | portDisable (rack : Byte) (presence : BitVec 24) (fields : RackOperands)
  /-- AMEND_RACK_PARAMETERS (R75): an AMEND-RACK whose enabled field is marked unchanged (or is no value of the enumeration, and refused). -/
  | amendRackParameters (rack : Byte) (presence : BitVec 24) (fields : RackOperands)
  /-- ACK_WARNING (R155). -/
  | ackWarning (rack : Byte)
  /-- READ_ROW (R33). -/
  | readRow
  /-- AMEND_ROW (R13). -/
  | amendRow (presence : Byte) (fields : RowOperands)
  /-- RESTART_ROW (R30). -/
  | restartRow
  /-- READ_REFERENCE (R49). -/
  | readReference (ref : Byte)
  /-- AMEND_REFERENCE (R36). -/
  | amendReference (ref : Byte) (compensation ceiling fixedU : BitVec 32)
  /-- SELECT (R47). -/
  | select (ref : Byte)
  /-- SET_BACKUP (R48). -/
  | setBackup (ref : Byte)
  /-- READ_FENCE (R147). -/
  | readFence (position : Byte)
  /-- READ_EVENTS (R164). -/
  | readEvents
  /-- SET_EVENT_MASK (R165). -/
  | setEventMask (mask : BitVec 16)
  /-- SET_LINE (R166). -/
  | setLine (line function polarity rack level : Byte)
  /-- IDENTIFY (R168). -/
  | identify
  /-- UNKNOWN_REQUEST (R159). -/
  | unknownRequest (code : Byte)
  /-- MANAGEMENT_FRAME_ABORT (R159): `clocked` are the bytes taken before MCS rose. -/
  | managementFrameAbort (clocked : List Byte)
deriving DecidableEq, Repr

end Sys2Proof
end

