-- ==== Sys2Proof/Decode.lean ====
section
/-! DEFINITION. How bytes spell commands. spec/opcode_table.json gives no row any bits, so `decodeTableWord` reads no command from a word. The manual gives the management requests their bytes (R159, R174): `frameCommand` is the command that the bytes clocked in within one management frame come to, total on any bytes, and `requestBytes` writes the frame of a request. -/

namespace Sys2Proof

/-- The command that a word spells by the table's bits: no row of the table has bits, so no word spells one. -/
def decodeTableWord (_nbits _w : Nat) : Option Instr := none

/-! ## Management frames (R174) -/

/-- The number of operand bytes of each known request code; `none` for a code that names no request (R159, R174). -/
def operandCount (code : Byte) : Option Nat :=
  match code.toNat with
  | 0x10 | 0x11 | 0x34 => some 13
  | 0x12 | 0x13 | 0x14 | 0x15 | 0x20 | 0x22 | 0x33 | 0x35 | 0x36 | 0x40 => some 1
  | 0x16 | 0x18 | 0x51 => some 2
  | 0x17 | 0x30 | 0x32 | 0x50 | 0x7F => some 0
  | 0x21 => some 55
  | 0x31 => some 21
  | 0x52 => some 5
  | _ => none

/-- The operand byte at a position. -/
def byteAt (l : List Byte) (k : Nat) : Byte := l.getD k 0

/-- A field of `n` bytes at a position, most significant byte first (R169). -/
def fieldAt (w : Nat) (l : List Byte) (k n : Nat) : BitVec w := BitVec.ofNat w (Machine.beNat ((l.drop k).take n))

/-- The fields that ENROL and AMEND-FOLLOWER share, from their third operand byte on (R174). -/
def followerOperandsAt (l : List Byte) : FollowerOperands where
  kind := byteAt l 2
  periodClass := byteAt l 3
  reload := byteAt l 4
  wander := fieldAt 16 l 5 2
  shift := byteAt l 7
  maxAge := fieldAt 32 l 8 4
  flags := byteAt l 12

/-- The rack fields of AMEND-RACK, after rack and presence (R174). -/
def rackOperandsAt (l : List Byte) : RackOperands where
  enabled := byteAt l 4
  replyWindow := fieldAt 16 l 5 2
  asymmetry := fieldAt 32 l 7 4
  baseError := fieldAt 32 l 11 4
  delayCeiling := fieldAt 32 l 15 4
  budgetReload := byteAt l 19
  trustOffset := fieldAt 32 l 20 4
  faultLimit := byteAt l 24
  dateCeiling := fieldAt 32 l 25 4
  rackPenalty := fieldAt 32 l 29 4
  driftPolicy := byteAt l 33
  minMembers := byteAt l 34
  leanRate := fieldAt 32 l 35 4
  excessRate := fieldAt 32 l 39 4
  leanOffset := fieldAt 32 l 43 4
  excessOffset := fieldAt 32 l 47 4
  persistMain := byteAt l 51
  persistPrescale := byteAt l 52
  calmMain := byteAt l 53
  calmPrescale := byteAt l 54

/-- The fields of AMEND-ROW, after presence (R174). -/
def rowOperandsAt (l : List Byte) : RowOperands where
  stepLimit := fieldAt 32 l 1 4
  sanityLimit := fieldAt 32 l 5 4
  urLimit := fieldAt 32 l 9 4
  gain := byteAt l 13
  wander := fieldAt 32 l 14 4
  horizon := byteAt l 18
  waitMax := fieldAt 16 l 19 2

/-- The enabled field of an AMEND-RACK is marked and holds this value (R176). -/
def marksEnabled (presence : BitVec 24) (o : RackOperands) (v : Byte) : Bool := presence.getLsbD 0 && o.enabled == v

/-- The row of the table that an AMEND-RACK frame is: PORT_ENABLE, PORT_DISABLE or AMEND_RACK_PARAMETERS. -/
def amendRackCommand (rack : Byte) (presence : BitVec 24) (o : RackOperands) : Instr :=
  if marksEnabled presence o 0x01 then .portEnable rack presence o
  else if marksEnabled presence o 0x00 then .portDisable rack presence o
  else .amendRackParameters rack presence o

/-- The request of a known code with its operand bytes (R174). -/
def requestCommand (code : Byte) (l : List Byte) : Instr :=
  match code.toNat with
  | 0x10 => .enrol (byteAt l 0) (byteAt l 1) (followerOperandsAt l)
  | 0x11 => .amendFollower (byteAt l 0) (byteAt l 1) (followerOperandsAt l)
  | 0x12 => .mute (byteAt l 0)
  | 0x13 => .unmute (byteAt l 0)
  | 0x14 => .retire (byteAt l 0)
  | 0x15 => .readFollower (byteAt l 0)
  | 0x16 => .findFollower (byteAt l 0) (byteAt l 1)
  | 0x17 => .findNoticed
  | 0x18 => .order (byteAt l 0) (byteAt l 1)
  | 0x20 => .readRack (byteAt l 0)
  | 0x21 => amendRackCommand (byteAt l 0) (fieldAt 24 l 1 3) (rackOperandsAt l)
  | 0x22 => .ackWarning (byteAt l 0)
  | 0x30 => .readRow
  | 0x31 => .amendRow (byteAt l 0) (rowOperandsAt l)
  | 0x32 => .restartRow
  | 0x33 => .readReference (byteAt l 0)
  | 0x34 => .amendReference (byteAt l 0) (fieldAt 32 l 1 4) (fieldAt 32 l 5 4) (fieldAt 32 l 9 4)
  | 0x35 => .select (byteAt l 0)
  | 0x36 => .setBackup (byteAt l 0)
  | 0x40 => .readFence (byteAt l 0)
  | 0x50 => .readEvents
  | 0x51 => .setEventMask (fieldAt 16 l 0 2)
  | 0x52 => .setLine (byteAt l 0) (byteAt l 1) (byteAt l 2) (byteAt l 3) (byteAt l 4)
  | 0x7F => .identify
  | _ => .unknownRequest code

/-- The command that the bytes clocked in within one management frame come to (R159): the request of the first byte once its operands are in, whatever follows; UNKNOWN for a code that names none; an abort where MCS rose too early. -/
def frameCommand (clocked : List Byte) : Instr :=
  match clocked with
  | [] => .managementFrameAbort []
  | code :: operands =>
    match operandCount code with
    | none => .unknownRequest code
    | some n => if operands.length < n then .managementFrameAbort clocked else requestCommand code (operands.take n)

/-! ## The frames of the requests -/

/-- The bytes of a field. -/
def fieldBytes {w : Nat} (n : Nat) (v : BitVec w) : List Byte := Machine.beBytes n v.toNat

/-- The bytes of the fields that ENROL and AMEND-FOLLOWER share (R174). -/
def FollowerOperands.bytes (o : FollowerOperands) : List Byte :=
  [o.kind, o.periodClass, o.reload] ++ fieldBytes 2 o.wander ++ [o.shift] ++ fieldBytes 4 o.maxAge ++ [o.flags]

/-- The 51 bytes of rack fields (R174). -/
def RackOperands.bytes (o : RackOperands) : List Byte :=
  [o.enabled] ++ fieldBytes 2 o.replyWindow ++ fieldBytes 4 o.asymmetry ++ fieldBytes 4 o.baseError ++ fieldBytes 4 o.delayCeiling ++
  [o.budgetReload] ++ fieldBytes 4 o.trustOffset ++ [o.faultLimit] ++ fieldBytes 4 o.dateCeiling ++ fieldBytes 4 o.rackPenalty ++
  [o.driftPolicy, o.minMembers] ++ fieldBytes 4 o.leanRate ++ fieldBytes 4 o.excessRate ++ fieldBytes 4 o.leanOffset ++
  fieldBytes 4 o.excessOffset ++ [o.persistMain, o.persistPrescale, o.calmMain, o.calmPrescale]

/-- The 20 bytes of the AMEND-ROW fields (R174). -/
def RowOperands.bytes (o : RowOperands) : List Byte :=
  fieldBytes 4 o.stepLimit ++ fieldBytes 4 o.sanityLimit ++ fieldBytes 4 o.urLimit ++ [o.gain] ++ fieldBytes 4 o.wander ++
  [o.horizon] ++ fieldBytes 2 o.waitMax

/-- The bytes of an AMEND-RACK. -/
def amendRackBytes (rack : Byte) (presence : BitVec 24) (o : RackOperands) : List Byte :=
  [0x21, rack] ++ fieldBytes 3 presence ++ o.bytes

/-- The bytes that the controller clocks in for a request: its code and its operand bytes (R174). `none` for a command that is no request. -/
def requestBytes : Instr → Option (List Byte)
  | .enrol port slot o => some ([0x10, port, slot] ++ o.bytes)
  | .amendFollower index presence o => some ([0x11, index, presence] ++ o.bytes)
  | .mute index => some [0x12, index]
  | .unmute index => some [0x13, index]
  | .retire index => some [0x14, index]
  | .readFollower index => some [0x15, index]
  | .findFollower port slot => some [0x16, port, slot]
  | .findNoticed => some [0x17]
  | .order index kind => some [0x18, index, kind]
  | .readRack rack => some [0x20, rack]
  | .portEnable rack presence o => some (amendRackBytes rack presence o)
  | .portDisable rack presence o => some (amendRackBytes rack presence o)
  | .amendRackParameters rack presence o => some (amendRackBytes rack presence o)
  | .ackWarning rack => some [0x22, rack]
  | .readRow => some [0x30]
  | .amendRow presence o => some ([0x31, presence] ++ o.bytes)
  | .restartRow => some [0x32]
  | .readReference ref => some [0x33, ref]
  | .amendReference ref compensation ceiling fixedU =>
    some ([0x34, ref] ++ fieldBytes 4 compensation ++ fieldBytes 4 ceiling ++ fieldBytes 4 fixedU)
  | .select ref => some [0x35, ref]
  | .setBackup ref => some [0x36, ref]
  | .readFence position => some [0x40, position]
  | .readEvents => some [0x50]
  | .setEventMask mask => some ([0x51] ++ fieldBytes 2 mask)
  | .setLine line function polarity rack level => some [0x52, line, function, polarity, rack, level]
  | .identify => some [0x7F]
  | .unknownRequest code => some [code]
  | .managementFrameAbort clocked => some clocked
  | .powerOnReset | .warmUpEnd | .startUpIntervalEnd | .markDelimiterArrival _ | .linkMarkReceptionEnd _ _ | .pulseEdge
  | .missingMarkExpiry _ | .holdoverToFree | .boundaryEvent | .persistenceExpiry _ | .calmExpiry _ | .secondPulseWindowStart
  | .secondPulseWindowEnd | .fenceClearing | .fenceExpiry _ | .fenceDrop _ | .announceStart _ | .announceEnd _ | .exchangeStart _
  | .probeEnd _ | .echoMismatch _ | .replyWindowExpiry _ | .replyArrival _ | .replyReceptionEnd _ _ | .verdictEnd _
  | .unsolicitedFrame _ | .quietFrame _ | .quietWindowEnd _ | .transmitGuardTrip _ => none

end Sys2Proof
end

