-- ==== Sys2Proof/Machine/State.lean ====
section
/-! DEFINITION. The state of the TD-1256, block by block as the manual gives it, and its value right after power-on reset. Plain data. Fields marked "the model's own" are no register of the manual; each is named in INVENTORY.md with its log entry. -/

namespace Sys2Proof.Machine

/-! ## The Row Clock (Chapter 2) -/

/-- The five row states (R11), in the order of R170's codes. -/
inductive RowState where
  | warming | acquiring | locked | holdover | free
deriving DecidableEq, Repr

/-- The row record of R11 and the row parameters of R12. -/
structure Row where
  /-- Whole part of row time, ns (R1). -/
  whole : Nat
  /-- Fraction of row time, units of 2^-32 ns (R1). -/
  frac : Nat
  /-- The model's own: what the exact advance of R14 has left below the fraction, in 1/16,000,000,000 of a unit (log entry 1). -/
  residue : Nat
  state : RowState
  /-- The row-set flag (R22). -/
  rowSet : Bool
  /-- Frequency memory y, RU. -/
  y : Int
  /-- Steer s, RU. -/
  s : Int
  /-- The held Ur, ns (R24). -/
  ur : Nat
  /-- Holdover entry time t_h, ns. -/
  entryTime : Nat
  /-- Holdover entry uncertainty Ur_entry, ns. -/
  entryUr : Nat
  /-- Elapsed oscillator time remaining of the warm-up, units of 2^-32 ns. -/
  warmUp : Nat
  lastStep : Nat
  /-- Step limit, ns (R12). -/
  stepLimit : Nat
  /-- Sanity limit, ns (R12). -/
  sanityLimit : Nat
  /-- Ur limit, ns (R12). -/
  urLimit : Nat
  /-- Gain exponent g (R12). -/
  gain : Nat
  /-- Holdover wander H, RU (R12). -/
  wander : Nat
deriving DecidableEq, Repr

/-! ## The Reference Selector (Chapter 3) -/

/-- Reference states (R34), in the order of R175's codes. -/
inductive RefState where
  | absent | qualifying | usable | faulted
deriving DecidableEq, Repr

/-- A reference record (R34) with its parameters (R36). -/
structure RefRecord where
  state : RefState
  qualifyCount : Nat
  lastLabel : Nat
  lastArrival : Nat
  lastU : Nat
  rejects : Nat
  lastError : Int
  /-- Stamp of the mark frame now being received on this input (R10, R38); none while no frame is. -/
  arriving : Option Nat
  /-- Path compensation, ns. -/
  compensation : Nat
  /-- Declared-u ceiling, ns. -/
  ceiling : Nat
  /-- Fixed declared u of the Pulse record, ns; 0 and unused in a link record (R36, R175). -/
  fixedU : Nat
deriving DecidableEq, Repr

/-- The four records and the designations (R34, R35). -/
structure Selector where
  hallA : RefRecord
  hallB : RefRecord
  neighbour : RefRecord
  pulse : RefRecord
  selected : Reference
  backup : Option Reference
  inUse : Option Reference
  firstMark : Bool
deriving DecidableEq, Repr

/-! ## The Follower Table (Chapters 4, 6 and 7) -/

/-- Follower states (R51), in the order of R175's codes. -/
inductive FollowerState where
  | vacant | settling | trusted | stale | muted | retiring
deriving DecidableEq, Repr

/-- The kind of an agent (R51). -/
inductive AgentKind where
  | server | storage
deriving DecidableEq, Repr

/-- The counted fault kinds (R90), in the order of R175's codes. -/
inductive FaultKind where
  | check | stray | overrun | causality | delay | timeout | echo
deriving DecidableEq, Repr

/-- Order kinds (R113), in the order of R170's codes. -/
inductive OrderKind where
  | step | hold | resume | resetAgent
deriving DecidableEq, Repr

/-- The ends of an order (R121), in the order of R175's codes. -/
inductive OrderEnd where
  | done | refused | lost | cancelled
deriving DecidableEq, Repr

/-- A pending order with its attempts (R113). -/
structure PendingOrder where
  kind : OrderKind
  attempts : Nat
deriving DecidableEq, Repr

/-- One estimate slot (R51, R107). -/
structure Estimate where
  valid : Bool
  /-- θ, ns. -/
  theta : Int
  /-- r, RU. -/
  rate : Int
  /-- d, ns. -/
  delay : Nat
  /-- U_pub, ns. -/
  uPub : Nat
  t4 : Nat
deriving DecidableEq, Repr

/-- The published selector (R52). -/
inductive SlotName where
  | a | b
deriving DecidableEq, Repr

/-- The three notify flags (R51). -/
structure NotifyFlags where
  onTrusted : Bool
  onStale : Bool
  onOrder : Bool
deriving DecidableEq, Repr

/-- A follower record, the fields of R51 in table order. -/
structure Follower where
  state : FollowerState
  port : RackId
  slot : Fin 40
  kind : AgentKind
  periodClass : Nat
  settleReload : Nat
  settleCount : Nat
  /-- Wander allowance G, RU. -/
  wander : Nat
  /-- Smoothing shift k. -/
  shift : Nat
  maxAge : Nat
  slotA : Estimate
  slotB : Estimate
  selector : SlotName
  rateBase : Bool
  freshSince : Nat
  nextDue : Nat
  consecutiveFaults : Nat
  lastFault : Option FaultKind
  goodCount : BitVec 16
  faultedCount : BitVec 16
  holding : Bool
  pendingOrder : Option PendingOrder
  lastOutcome : Option (OrderEnd × OrderKind)
  notify : NotifyFlags
  noticed : Bool
deriving DecidableEq, Repr

/-! ## Fences (Chapter 9) -/

/-- The state of a fence (R135), in the order of R174's codes. -/
inductive FenceState where
  | waiting | cleared | voidedRestart | voidedExpired
deriving DecidableEq, Repr

/-- A fence record (R135). -/
structure Fence where
  follower : FollowerId
  tag : Byte
  bound : Nat
  state : FenceState
  lastChange : Nat
  /-- The model's own: a serial number by which an exchange names the fences its Verdict carries (R145), since two fences may agree in every field of R135 (log entry 21). -/
  serial : Nat
deriving DecidableEq, Repr

/-- The Fence List with its parameters and counter (R135, R136). -/
structure FenceList where
  list : List Fence
  /-- Fence horizon, s. -/
  horizon : Nat
  /-- Fence wait maximum, s. -/
  waitMax : Nat
  dropped : BitVec 16
  /-- The model's own: the serial number of the next fence inserted (log entry 21). -/
  nextSerial : Nat
deriving DecidableEq, Repr

/-! ## Verdicts (Chapters 5, 8 and 9) -/

/-- The answers to Date and Fence asks (R123, R137). -/
inductive Answer where
  | dated (earliest latest : Nat) (holdover widened : Bool)
  | notStorage | notReady | free | notTrusted | future | tooOld | rackDrift | tooUncertain
  | outOfRange | withdrawn | clear | far | full | held
deriving DecidableEq, Repr

/-- An entry of a Verdict (R83, R170). -/
inductive Notice where
  | date (tag : Byte) (answer : Answer)
  | fence (tag : Byte) (answer : Answer)
  | fenceState (tag : Byte) (bound : Nat) (state : FenceState)
deriving DecidableEq, Repr

/-! ## Rack ports (Chapter 5) -/

/-- Port states (R76), in the order of R175's codes. -/
inductive PortState where
  | disabled | running | halted
deriving DecidableEq, Repr

/-- Port activities (R78), in the order of R175's codes. -/
inductive Activity where
  | idle | announcing | exchange | quiet
deriving DecidableEq, Repr

/-- Phases of an exchange (R74). -/
inductive Phase where
  | probe | awaiting | verdict
deriving DecidableEq, Repr

/-- What is captured with the stamp t4 (R99). -/
structure Capture where
  t4 : Nat
  rowState : RowState
  ur : Nat
deriving DecidableEq, Repr

/-- The exchange in flight (R74). -/
structure Exchange where
  follower : FollowerId
  sequence : Byte
  t1 : Nat
  phase : Phase
  /-- The carried order (R115). -/
  order : Option OrderKind
  /-- Elapsed oscillator time at which the reply window runs out, while it runs (R85). -/
  windowEnd : Option Nat
  /-- The stamp of the frame taken as the Reply and what was captured with it (R99). -/
  reply : Option Capture
  /-- The notices placed in the Verdict (R83). -/
  notices : List Notice
  /-- The serial numbers of the fences the Verdict carries (R145). -/
  carried : List Nat
deriving DecidableEq, Repr

/-- A frame being driven on the rack bus, with the elapsed oscillator time of its start (R93). -/
structure Transmission where
  frame : List Byte
  start : Nat
deriving DecidableEq, Repr

/-- The port fields and port parameters of a rack record (R74, R75). -/
structure Port where
  state : PortState
  activity : Activity
  sequence : Byte
  pendingAnnounce : Bool
  exchange : Option Exchange
  /-- Fault budget counter (R95). -/
  budget : Nat
  unsolicited : Byte
  degraded : Byte
  /-- Elapsed oscillator time at which the quiet window runs out (R96). -/
  quietEnd : Option Nat
  /-- The frame on RKD with its start; the driver enable RKE is asserted exactly while there is one (R91, R93). -/
  transmitting : Option Transmission
  /-- Reply window, µs. -/
  replyWindow : Nat
  /-- Asymmetry α, ns. -/
  asymmetry : Int
  /-- Base error ε, ns. -/
  baseError : Nat
  delayCeiling : Nat
  /-- Budget reload B. -/
  budgetReload : Nat
deriving DecidableEq, Repr

/-! ## Drift Watch (Chapter 10) -/

/-- Drift states (R151), in the order of R175's codes. -/
inductive DriftState where
  | unknown | calm | leaning | excess
deriving DecidableEq, Repr

/-- Warning levels (R148), in the order None, Watch, Drift. -/
inductive Warning where
  | none | watch | drift
deriving DecidableEq, Repr

/-- Drift policies (R124). -/
inductive DriftPolicy where
  | widen | refuse
deriving DecidableEq, Repr

/-- A counter with its reloads (R152). -/
structure Counter where
  main : Nat
  prescale : Nat
  mainReload : Nat
  prescaleReload : Nat
  /-- The model's own: the counter has expired at a boundary, and the PERSISTENCE_EXPIRY or CALM_EXPIRY of that instant has not been taken yet (log entry 8). -/
  standing : Bool
deriving DecidableEq, Repr

/-- The drift fields and drift parameters of a rack record (R148, R149). -/
structure Drift where
  members : Nat
  /-- Mean rate D, RU. -/
  meanRate : Int
  /-- Widest offset W, ns. -/
  widest : Nat
  state : DriftState
  persistence : Counter
  calm : Counter
  warning : Warning
  acknowledged : Bool
  minMembers : Nat
  leanRate : Nat
  excessRate : Nat
  leanOffset : Nat
  excessOffset : Nat
deriving DecidableEq, Repr

/-- A rack record: port fields, the trust parameters of R53, the dating parameters of R124 and the drift fields. -/
structure Rack where
  port : Port
  trustOffset : Nat
  faultLimit : Nat
  dateCeiling : Nat
  rackPenalty : Nat
  driftPolicy : DriftPolicy
  drift : Drift
deriving DecidableEq, Repr

/-! ## The Management Link and the Warning Line Driver (Chapter 11) -/

/-- The event flags of R163; a map holds rack n at bit n. -/
structure Events where
  rowStateChanged : Bool
  rowStepped : Bool
  referenceSwitched : Bool
  referenceFaulted : Bool
  rackWarning : BitVec 12
  portDegraded : BitVec 12
  portHalted : BitVec 12
  followerNotice : Bool
  fenceDrop : Bool
deriving DecidableEq, Repr

/-- Where the management link stands with its frame (R159); MCS is high exactly where no frame is open and none is awaited. -/
inductive LinkFrame where
  /-- MCS was low at the release of reset: the link waits for it to rise and fall again. -/
  | awaitRise
  /-- MCS is high. -/
  | closed
  /-- MCS has fallen, and these code and operand bytes have arrived; the request has not taken effect. -/
  | receiving (clocked : List Byte)
  /-- The request has taken effect, and this many bytes have been clocked since. -/
  | taken (shifted : Nat)
deriving DecidableEq, Repr

/-- What the controller does on MCS, MDI and MCLK: MCS falls, a byte is clocked, MCS rises (R159). -/
inductive LinkEvent where
  | select
  | byte (mdi : Byte)
  | deselect
deriving DecidableEq, Repr

/-- The Management Link. -/
structure Link where
  /-- Elapsed oscillator time remaining of the start-up interval, units of 2^-32 ns (R160). -/
  startUp : Nat
  /-- Whether the start-up interval has ended (R160). -/
  ready : Bool
  events : Events
  /-- One bit an event, in the order of R163; a bit set masks its event (R163, R165). -/
  mask : BitVec 9
  /-- The response of the frame whose request has taken effect: outcome byte, then result bytes; empty where there is none (R159). -/
  response : List Byte
  frame : LinkFrame
deriving DecidableEq, Repr

/-- Warning line functions (R167), in table order. -/
inductive LineFunction where
  | level | anyWarning | anyDrift | oneRack | notLocked | holdover | secondPulse | fenceBacklog | portHalted
deriving DecidableEq, Repr

/-- The configuration of a warning line (R166). -/
structure Line where
  function : LineFunction
  activeHigh : Bool
  rack : RackId
  level : Bool
deriving DecidableEq, Repr

/-! ## The whole part -/

/-- The state of the TD-1256 and the queue of commands that wait. -/
structure State where
  /-- Elapsed oscillator time since the release of reset, units of 2^-32 ns (R8). -/
  elapsed : Nat
  row : Row
  selector : Selector
  followers : Vector Follower 256
  racks : Vector Rack 12
  fences : FenceList
  link : Link
  lines : Vector Line 4
  /-- Whether the Second pulse condition of R167 holds: the row-set flag is true and row time lies in a pulse window. -/
  pulseWindow : Bool
  /-- The number of multiples of 100,000,000 ns whose boundary event has been raised (R29). -/
  boundaries : Nat
  /-- The model's own: how many free values have been taken (log entries 3, 5, 6 and 7). -/
  choices : Nat
  /-- The commands that wait, first in, first out. -/
  pending : List Instr
  /-- The model's own: what the controller does next on the wires of the management link, first in, first out (log entry 30). -/
  wires : List LinkEvent
deriving DecidableEq, Repr

/-- Nothing the manual describes stops the part, so no meaning of this model ends in a fault and the type has no constructor. -/
inductive Fault where
deriving DecidableEq, Repr

/-- Why a command is refused a meaning. -/
inductive Refusal where
  /-- Raised by an arm of `exec` whose command has no meaning in the model yet (safe: nothing can be proved of it). No arm raises it now. -/
  | notModelled (mnemonic : String)
deriving DecidableEq, Repr

/-- What a command ends in. -/
abbrev Result := Host.Outcome State Fault Refusal

/-! ## Power-on values -/

/-- The row record and row parameters at power-on (R11, R12). The warm-up timer stands at 180 s. -/
def Row.powerOn : Row where
  whole := 0
  frac := 0
  residue := 0
  state := .warming
  rowSet := false
  y := 0
  s := 0
  ur := 4294967295
  entryTime := 0
  entryUr := 0
  warmUp := 180 * 1000000000 * 4294967296
  lastStep := 0
  stepLimit := 50000
  sanityLimit := 200000
  urLimit := 1000000
  gain := 4
  wander := 1600

/-- A reference record at power-on (R34, R36) with its fixed declared u. -/
def RefRecord.powerOn (fixedU : Nat) : RefRecord where
  state := .absent
  qualifyCount := 0
  lastLabel := 0
  lastArrival := 0
  lastU := 0
  rejects := 0
  lastError := 0
  arriving := none
  compensation := 0
  ceiling := 50000
  fixedU := fixedU

/-- The Reference Selector at power-on (R34, R35, R36). -/
def Selector.powerOn : Selector where
  hallA := .powerOn 0
  hallB := .powerOn 0
  neighbour := .powerOn 0
  pulse := .powerOn 100
  selected := .hallA
  backup := some .hallB
  inUse := none
  firstMark := false

/-- An estimate slot never written (R51). -/
def Estimate.empty : Estimate where
  valid := false
  theta := 0
  rate := 0
  delay := 0
  uPub := 0
  t4 := 0

/-- A Vacant record with every field at its power-on value (R51). -/
def Follower.powerOn : Follower where
  state := .vacant
  port := 0
  slot := 0
  kind := .server
  periodClass := 0
  settleReload := 1
  settleCount := 0
  wander := 0
  shift := 0
  maxAge := 1000000
  slotA := .empty
  slotB := .empty
  selector := .a
  rateBase := false
  freshSince := 0
  nextDue := 0
  consecutiveFaults := 0
  lastFault := none
  goodCount := 0
  faultedCount := 0
  holding := false
  pendingOrder := none
  lastOutcome := none
  notify := ⟨false, false, false⟩
  noticed := false

/-- The port fields and parameters at power-on (R74, R75). -/
def Port.powerOn : Port where
  state := .disabled
  activity := .idle
  sequence := 0
  pendingAnnounce := false
  exchange := none
  budget := 32
  unsolicited := 0
  degraded := 0
  quietEnd := none
  transmitting := none
  replyWindow := 1000
  asymmetry := 0
  baseError := 50
  delayCeiling := 20000
  budgetReload := 32

/-- The drift fields and parameters at power-on (R148, R149). -/
def Drift.powerOn : Drift where
  members := 0
  meanRate := 0
  widest := 0
  state := .unknown
  persistence := ⟨30, 9, 30, 9, false⟩
  calm := ⟨60, 9, 60, 9, false⟩
  warning := .none
  acknowledged := false
  minMembers := 2
  leanRate := 1600
  excessRate := 8000
  leanOffset := 2000
  excessOffset := 20000

/-- A rack record at power-on (R53, R74, R124, R148). -/
def Rack.powerOn : Rack where
  port := .powerOn
  trustOffset := 50000
  faultLimit := 4
  dateCeiling := 1000000
  rackPenalty := 5000
  driftPolicy := .widen
  drift := .powerOn

/-- Every event flag clear (R163). -/
def Events.none : Events where
  rowStateChanged := false
  rowStepped := false
  referenceSwitched := false
  referenceFaulted := false
  rackWarning := 0
  portDegraded := 0
  portHalted := 0
  followerNotice := false
  fenceDrop := false

/-- The Management Link at power-on: the 10 ms start-up interval stands whole, every event is masked, no response stands, MCS is high (R159, R160, R163; the level of MCS is the model's choice, log entry 22). -/
def Link.powerOn : Link where
  startUp := 10000000 * 4294967296
  ready := false
  events := .none
  mask := 0x1FF#9
  response := []
  frame := .closed

/-- A warning line at power-on (R166). -/
def Line.powerOn : Line where
  function := .level
  activeHigh := true
  rack := 0
  level := false

/-- The Fence List at power-on (R135, R136). -/
def FenceList.powerOn : FenceList where
  list := []
  horizon := 10
  waitMax := 30
  dropped := 0
  nextSerial := 0

/-- The part at the release of the power-on reset, with no command and no event of the link's wires waiting. -/
def State.reset : State where
  elapsed := 0
  row := .powerOn
  selector := .powerOn
  followers := Vector.replicate 256 .powerOn
  racks := Vector.replicate 12 .powerOn
  fences := .powerOn
  link := .powerOn
  lines := Vector.replicate 4 .powerOn
  pulseWindow := false
  boundaries := 0
  choices := 0
  pending := []
  wires := []

end Sys2Proof.Machine
end

