-- ==== Sys2Proof/Machine/Ops.lean ====
section
/-! DEFINITION. The named operations over the state that the meanings share: tables, row time and Ur as other blocks read them, the event flags, and the answer of a management request. -/

namespace Sys2Proof.Machine

/-! ## Tables -/

/-- Apply `f` to every entry of a table. -/
def mapTable {α : Type} {n : Nat} (f : α → α) (v : Vector α n) : Vector α n :=
  ⟨⟨v.toList.map f⟩, by simp⟩

/-- The twelve rack ports in order. -/
def allRacks : List RackId := [0, 1, 2, 3, 4, 5, 6, 7, 8, 9, 10, 11]

/-- The 256 follower indices in order. -/
def allFollowers : List FollowerId := List.finRange 256

/-! ## Row time and Ur as other blocks read them -/

/-- Row time with its fraction, in units of 2^-32 ns (R1). -/
def Row.fine (r : Row) : Nat := unitsPerNs * r.whole + r.frac

/-- The largest row time, 2^64 − 1 ns with a zero fraction (R1). -/
def topOfTime : Nat := unitsPerNs * instantMax

/-- Row time, fraction included, has passed `ns` (R1, R8). -/
def Row.past (r : Row) (ns : Nat) : Bool := unitsPerNs * ns < r.fine

/-- Set row time to `v` units, holding at the top of its range (R1). -/
def Row.setFine (r : Row) (v : Nat) : Row :=
  { r with whole := min v topOfTime / unitsPerNs, frac := min v topOfTime % unitsPerNs }

/-- The whole part of row time: every stamp and snapshot (R1). -/
def State.now (s : State) : Nat := s.row.whole

/-- Ur as every reader takes it: the held value, or the growth of R26 in Holdover and Free (R24, R26). -/
def Row.currentUr (r : Row) : Nat :=
  match r.state with
  | .holdover | .free => saturateU (r.entryUr + growth r.wander (r.whole - r.entryTime))
  | .warming | .acquiring | .locked => r.ur

/-- How many positive multiples of `spacing` ns row time, fraction included, has passed (R29, R167). -/
def Row.multiplesPassed (r : Row) (spacing : Nat) : Nat := (r.fine - 1) / (unitsPerNs * spacing)

/-- Row time lies in a pulse window: greater than a positive multiple M of 1 s and not greater than M + 1 ms (R167). -/
def Row.inPulseWindow (r : Row) : Bool :=
  let m := r.multiplesPassed second
  0 < m && r.fine ≤ unitsPerNs * (pulseHighTime + second * m)

/-- The Second pulse condition of R167. -/
def Row.pulseCondition (r : Row) : Bool := r.rowSet && r.inPulseWindow

/-! ## Records -/

/-- The record of a follower. -/
def State.follower (s : State) (i : FollowerId) : Follower := s.followers[i]

/-- Replace the record of a follower. -/
def State.setFollower (s : State) (i : FollowerId) (f : Follower) : State :=
  { s with followers := s.followers.set i f }

/-- The record of a rack. -/
def State.rack (s : State) (p : RackId) : Rack := s.racks[p]

/-- Replace the record of a rack. -/
def State.setRack (s : State) (p : RackId) (r : Rack) : State :=
  { s with racks := s.racks.set p r }

/-- The port fields of a rack. -/
def State.port (s : State) (p : RackId) : Port := (s.rack p).port

/-- Replace the port fields of a rack. -/
def State.setPort (s : State) (p : RackId) (q : Port) : State :=
  s.setRack p { s.rack p with port := q }

/-- Replace the drift fields of a rack. -/
def State.setDrift (s : State) (p : RackId) (d : Drift) : State :=
  s.setRack p { s.rack p with drift := d }

/-- The record of a reference. -/
def Selector.ref (x : Selector) : Reference → RefRecord
  | .hallA => x.hallA
  | .hallB => x.hallB
  | .neighbour => x.neighbour
  | .pulse => x.pulse

/-- Replace the record of a reference. -/
def Selector.setRef (x : Selector) (r : Reference) (v : RefRecord) : Selector :=
  match r with
  | .hallA => { x with hallA := v }
  | .hallB => { x with hallB := v }
  | .neighbour => { x with neighbour := v }
  | .pulse => { x with pulse := v }

/-- The record of a reference. -/
def State.ref (s : State) (r : Reference) : RefRecord := s.selector.ref r

/-- Replace the record of a reference. -/
def State.setRef (s : State) (r : Reference) (v : RefRecord) : State :=
  { s with selector := s.selector.setRef r v }

/-! ## Event flags (R163) -/

/-- The events without a rack map. -/
inductive Event where
  | rowStateChanged | rowStepped | referenceSwitched | referenceFaulted | followerNotice | fenceDrop
deriving DecidableEq, Repr

/-- The events that mark a rack. -/
inductive RackEvent where
  | warning | degraded | halted
deriving DecidableEq, Repr

/-- Set a flag; a flag already set stays set (R163). -/
def Events.raise (e : Events) : Event → Events
  | .rowStateChanged => { e with rowStateChanged := true }
  | .rowStepped => { e with rowStepped := true }
  | .referenceSwitched => { e with referenceSwitched := true }
  | .referenceFaulted => { e with referenceFaulted := true }
  | .followerNotice => { e with followerNotice := true }
  | .fenceDrop => { e with fenceDrop := true }

/-- The bit of a rack in a twelve-rack map. -/
def rackBit (p : RackId) : BitVec 12 := 1#12 <<< p.val

/-- Set the bit of a rack in a map (R163). -/
def Events.raiseRack (e : Events) (p : RackId) : RackEvent → Events
  | .warning => { e with rackWarning := e.rackWarning ||| rackBit p }
  | .degraded => { e with portDegraded := e.portDegraded ||| rackBit p }
  | .halted => { e with portHalted := e.portHalted ||| rackBit p }

/-- A block raises an event (R163). -/
def State.raise (s : State) (e : Event) : State :=
  { s with link := { s.link with events := s.link.events.raise e } }

/-- A block raises an event for a rack (R163). -/
def State.raiseRack (s : State) (p : RackId) (e : RackEvent) : State :=
  { s with link := { s.link with events := s.link.events.raiseRack p e } }

/-- Raise an event if a condition holds. -/
def State.raiseIf (s : State) (c : Bool) (e : Event) : State :=
  { s with link := { s.link with events := if c then s.link.events.raise e else s.link.events } }

/-- Put the row into a state; a change raises the row state changed event (R32). -/
def State.enterRowState (s : State) (t : RowState) : State :=
  ({ s with row := { s.row with state := t } } : State).raiseIf (s.row.state ≠ t) .rowStateChanged

/-! ## Free values -/

/-- Count one free value as taken. -/
def State.choose (s : State) : State := { s with choices := s.choices + 1 }

/-- An instant as a field holds it: the exact value, or a free value where it lies beyond 2^64 − 1 ns and no rule states the result (R1, log entry 7). -/
def State.heldInstant (s : State) (exact : Nat) : Nat :=
  if instantMax < exact then (Config.instantBeyondRange s.choices).toNat else exact

/-! ## Answers of the management link (R159 to R161) -/

/-- The outcomes of R161. -/
inductive Outcome where
  | done | pending | busy | full | taken | range | state | notFound | notReady | unknown
deriving DecidableEq, Repr

/-- The outcome bytes of R174. -/
def Outcome.code : Outcome → Byte
  | .done => 0x01
  | .pending => 0x02
  | .busy => 0x03
  | .full => 0x04
  | .taken => 0x05
  | .range => 0x06
  | .state => 0x07
  | .notFound => 0x08
  | .notReady => 0x09
  | .unknown => 0x0A

/-- Answer a request: outcome byte, then result bytes, none of them shifted out yet; the frame's request has been taken (R159). -/
def State.answer (s : State) (o : Outcome) (results : List Byte) : State :=
  { s with link := { s.link with response := o.code :: results, frame := .taken 0 } }

/-- Refuse a request: its result bytes read as zero bytes (R161). -/
def State.refuse (s : State) (o : Outcome) (resultBytes : Nat) : State :=
  s.answer o (List.replicate resultBytes 0)

/-- A known request other than IDENTIFY: NOT-READY during the start-up interval, otherwise taken (R160). -/
def State.request (s : State) (resultBytes : Nat) (effect : State → State) : State :=
  if s.link.ready then effect s else s.refuse .notReady resultBytes

/-- Where the link stands in its frame, written. -/
def State.setFrame (s : State) (f : LinkFrame) : State := { s with link := { s.link with frame := f } }

/-- MCS rises: the frame ends, a request not yet taken is discarded, what is left of a response is lost (R159). -/
def State.endFrame (s : State) : State := { s with link := { s.link with response := [], frame := .closed } }

/-- Where the link stands after a reset: any frame in progress has ended, and where MCS is low the link waits for it to rise (R159). -/
def LinkFrame.afterReset : LinkFrame → LinkFrame
  | .closed => .closed
  | .awaitRise | .receiving _ | .taken _ => .awaitRise

end Sys2Proof.Machine
end

