-- ==== Sys2Proof/Machine/FollowerOps.lean ====
section
/-! DEFINITION. The shared operations on follower records: epochs, notices, the end of an order, attempts, counted faults, staleness and vacating (Chapters 4 and 7). -/

namespace Sys2Proof.Machine

/-- The record is probed by the sweep and publishes estimates: Settling, Trusted or Stale (R78, R88). -/
def FollowerState.active : FollowerState → Bool
  | .settling | .trusted | .stale => true
  | .vacant | .muted | .retiring => false

/-- The published slot (R52). -/
def Follower.published (f : Follower) : Estimate :=
  match f.selector with
  | .a => f.slotA
  | .b => f.slotB

/-- The base period of a period class, 125 × 2^class ms, in ns (R51, R80). -/
def basePeriod (c : Nat) : Nat := 125000000 * 2 ^ c

/-- An epoch at row time `now` (R68). -/
def Follower.epoch (f : Follower) (now : Nat) : Follower :=
  { f with rateBase := false, freshSince := now }

/-- Settling with the settle count reloaded. -/
def Follower.resettle (f : Follower) : Follower :=
  { f with state := .settling, settleCount := f.settleReload }

/-- What the epoch of a forward step or of RESTART-ROW does to a record (R69). -/
def Follower.rowEpoch (f : Follower) (now : Nat) : Follower :=
  match f.state with
  | .vacant => f
  | .settling | .trusted | .stale => (f.epoch now).resettle
  | .muted | .retiring => f.epoch now

/-- The epoch of a forward step or of RESTART-ROW to every non-Vacant record (R23, R31). -/
def State.rowEpochs (s : State) : State :=
  { s with followers := mapTable (fun f => f.rowEpoch s.now) s.followers }

/-- Set a record's noticed flag and raise the follower notice event (R70). -/
def State.notice (s : State) (i : FollowerId) : State :=
  (s.setFollower i { s.follower i with noticed := true }).raise .followerNotice

/-- `notice`, if a notify flag asks for it. -/
def State.noticeIf (s : State) (c : Bool) (i : FollowerId) : State := if c then s.notice i else s

/-- The end of a pending order (R121); nothing where no order is pending. -/
def State.endOrder (s : State) (i : FollowerId) (how : OrderEnd) : State :=
  let f := s.follower i
  match f.pendingOrder with
  | none => s
  | some o =>
    (s.setFollower i { f with pendingOrder := none, lastOutcome := some (how, o.kind) }).noticeIf f.notify.onOrder i

/-- One attempt added to a pending order, which ends Lost where the count would reach 3 (R119). -/
def State.addAttempt (s : State) (i : FollowerId) : State :=
  let f := s.follower i
  match f.pendingOrder with
  | none => s
  | some o =>
    if 3 ≤ o.attempts + 1 then s.endOrder i .lost
    else s.setFollower i { f with pendingOrder := some { o with attempts := o.attempts + 1 } }

/-- A record becomes Stale, by faults or by age (R66, R67, R70). -/
def State.goStale (s : State) (i : FollowerId) : State :=
  let f := s.follower i
  (s.setFollower i { f with state := .stale }).noticeIf f.notify.onStale i

/-- The fault fields after a counted fault (R66). -/
def Follower.countFault (f : Follower) (k : FaultKind) : Follower :=
  { f with
    consecutiveFaults := min 15 (f.consecutiveFaults + 1)
    faultedCount := f.faultedCount + 1
    lastFault := some k }

/-- A counted fault of a record, which may make it Stale (R66, R58). -/
def State.countFault (s : State) (i : FollowerId) (k : FaultKind) : State :=
  let f := (s.follower i).countFault k
  let s := s.setFollower i f
  if (f.state = .settling ∨ f.state = .trusted) ∧ (s.rack f.port).faultLimit ≤ f.consecutiveFaults then s.goStale i
  else s

/-- Remove every fence of a follower, without notice (R144). -/
def State.removeFencesOf (s : State) (i : FollowerId) : State :=
  { s with fences := { s.fences with list := s.fences.list.filter fun x => x.follower != i } }

/-- The fields of a record that has become Vacant: power-on values, except the last order outcome and the noticed flag (R63). -/
def Follower.vacated (f : Follower) : Follower :=
  { Follower.powerOn with lastOutcome := f.lastOutcome, noticed := f.noticed }

/-- A record becomes Vacant by retirement (R63). -/
def State.vacate (s : State) (i : FollowerId) : State :=
  let s := (s.removeFencesOf i).endOrder i .cancelled
  s.setFollower i (s.follower i).vacated

/-- A Settling or Trusted record is stale by age at a boundary: older than 8 base periods (R67). -/
def Follower.staleByAge (f : Follower) (now : Nat) : Bool :=
  (f.state == .settling || f.state == .trusted) && decide (8 * basePeriod f.periodClass < now - f.freshSince)

/-- The age test of one record (R67). -/
def State.ageTestOne (s : State) (i : FollowerId) : State :=
  if (s.follower i).staleByAge s.now then s.goStale i else s

/-- The age test of every record (R67). -/
def State.ageTest (s : State) : State := allFollowers.foldl State.ageTestOne s

/-- The index of the first record that satisfies `p`. -/
def State.findFollower (s : State) (p : Follower → Bool) : Option FollowerId :=
  allFollowers.find? fun i => p (s.follower i)

/-- A non-Vacant record holds this port and slot (R54, R71). -/
def Follower.holds (f : Follower) (port slot : Byte) : Bool :=
  f.state != .vacant && f.port.val == port.toNat && f.slot.val == slot.toNat

end Sys2Proof.Machine
end

