-- ==== Sys2Proof/Machine/DriftOps.lean ====
section
/-! DEFINITION. Drift Watch's shared operations: the measures and the classification of a rack, the two counters, the rise and fall of the warning, and the delivery of a boundary (Chapter 10). -/

namespace Sys2Proof.Machine

/-- Both values reloaded (R152). -/
def Counter.reload (c : Counter) : Counter :=
  { c with main := c.mainReload, prescale := c.prescaleReload }

/-- One counting boundary (R152). Where the main value falls to 0 the counter expires and is reloaded at once; what the expiry does to the warning is taken by the expiry's own command at the same instant (log entry 8). -/
def Counter.count (c : Counter) : Counter :=
  if 0 < c.prescale then { c with prescale := c.prescale - 1 }
  else if c.main ≤ 1 then { c.reload with standing := true }
  else { c with prescale := c.prescaleReload, main := c.main - 1 }

/-- The standing expiry has been taken. -/
def Counter.taken (c : Counter) : Counter := { c with standing := false }

/-- The order None, Watch, Drift. -/
def Warning.rank : Warning → Nat
  | .none => 0
  | .watch => 1
  | .drift => 2

/-- The level to which an expiry of the persistence counter raises the warning (R153). -/
def DriftState.level : DriftState → Warning
  | .leaning => .watch
  | .excess => .drift
  | .unknown | .calm => .none

/-- A standing expiry of a rack's persistence counter is taken: the warning rises to the level of the drift state if that is above the present one (R153). -/
def State.takePersistenceExpiry (s : State) (p : RackId) : State :=
  let d := (s.rack p).drift
  if d.persistence.standing then
    if d.warning.rank < d.state.level.rank then
      (s.setDrift p { d with persistence := d.persistence.taken, warning := d.state.level, acknowledged := false }).raiseRack p .warning
    else s.setDrift p { d with persistence := d.persistence.taken }
  else s

/-- A standing expiry of a rack's calm counter is taken: a Watch or Drift warning falls to None (R154). -/
def State.takeCalmExpiry (s : State) (p : RackId) : State :=
  let d := (s.rack p).drift
  if d.calm.standing then
    if d.warning ≠ .none then
      (s.setDrift p { d with calm := d.calm.taken, warning := .none, acknowledged := false }).raiseRack p .warning
    else s.setDrift p { d with calm := d.calm.taken }
  else s

/-- Whatever expiry of a rack stands is taken before anything else counts or reloads its counters, since it fell before (log entry 8). -/
def State.takeExpiries (s : State) (p : RackId) : State := (s.takePersistenceExpiry p).takeCalmExpiry p

/-- The members of a rack: the Trusted records enrolled on its port (R150). -/
def State.members (s : State) (p : RackId) : List Follower :=
  s.followers.toList.filter fun f => f.state == .trusted && f.port == p

/-- D: the mean of the published rates, rounded by truncate; 0 for no member (R150). -/
def meanRateOf (members : List Follower) : Int :=
  if members = [] then 0 else truncDiv (members.map fun f => f.published.rate).sum members.length

/-- W: the largest magnitude of the published offsets; 0 for no member (R150). -/
def widestOffsetOf (members : List Follower) : Nat :=
  members.foldl (fun w f => max w f.published.theta.natAbs) 0

/-- The classification of R151. -/
def Drift.classify (d : Drift) (n : Nat) (rate : Int) (widest : Nat) : DriftState :=
  if n < d.minMembers then .unknown
  else if d.excessRate < rate.natAbs ∨ d.excessOffset < widest then .excess
  else if d.leanRate < rate.natAbs ∨ d.leanOffset < widest then .leaning
  else .calm

/-- The counting of R153 according to the drift state. -/
def Drift.countBoundary (d : Drift) : Drift :=
  match d.state with
  | .unknown => d
  | .calm => { d with persistence := d.persistence.reload, calm := d.calm.count }
  | .leaning | .excess => { d with persistence := d.persistence.count, calm := d.calm.reload }

/-- The drift fields after an evaluation with these members (R150, R151, R153). -/
def Drift.evaluate (d : Drift) (members : List Follower) : Drift :=
  let n := members.length
  let rate := meanRateOf members
  let widest := widestOffsetOf members
  ({ d with members := n, meanRate := rate, widest := widest, state := d.classify n rate widest } : Drift).countBoundary

/-- The evaluation of one rack at a boundary: not made while its port is Disabled (R150). -/
def State.evaluateRack (s : State) (p : RackId) : State :=
  if (s.port p).state = .disabled then s
  else
    let s := s.takeExpiries p
    s.setDrift p ((s.rack p).drift.evaluate (s.members p))

/-- A boundary event reaches Drift Watch, and through it the age test (R150). -/
def State.deliverBoundary (s : State) : State := allRacks.foldl State.evaluateRack s.ageTest

/-- Both counters of a rack reloaded (R156, R157). -/
def Drift.reloadCounters (d : Drift) : Drift :=
  { d with persistence := d.persistence.reload, calm := d.calm.reload }

/-- What RESTART-ROW does to a rack's drift fields (R156). -/
def State.driftRestart (s : State) (p : RackId) : State :=
  let s := s.takeExpiries p
  let d := (s.rack p).drift
  let t := s.setDrift p { d.reloadCounters with warning := .none, acknowledged := false }
  if d.warning ≠ .none then t.raiseRack p .warning else t

end Sys2Proof.Machine
end

