-- ==== Sys2Proof/Machine/FenceOps.lean ====
section
/-! DEFINITION. The Fence List's shared operations: insertion in order of bound, the Due test, clearing, expiry, dropping, voiding, and the notices supplied to a Verdict (Chapter 9). -/

namespace Sys2Proof.Machine

/-- Insert after every fence whose bound is less than or equal to the new one's (R135). -/
def insertByBound (f : Fence) : List Fence → List Fence
  | [] => [f]
  | g :: rest => if g.bound ≤ f.bound then g :: insertByBound f rest else f :: g :: rest

/-- The list is in non-decreasing order of bound (R135). -/
def fencesOrdered (l : List Fence) : Prop := l.Pairwise fun f g => f.bound ≤ g.bound

/-- Replace the list of fences. -/
def State.setFences (s : State) (l : List Fence) : State := { s with fences := { s.fences with list := l } }

/-- The Due test: row time, fraction included, less Ur is greater than the bound; never passed in Free (R139). -/
def State.passesDue (s : State) (f : Fence) : Bool :=
  s.row.state != .free && decide (unitsPerNs * (f.bound + s.row.currentUr) < s.row.fine)

/-- A Waiting fence that passes the Due test. -/
def State.clearable (s : State) (f : Fence) : Bool := f.state == .waiting && s.passesDue f

/-- One fence at a clearing (R139). -/
def State.clearFence (s : State) (f : Fence) : Fence :=
  if s.clearable f then { f with state := .cleared, lastChange := s.now } else f

/-- Every Waiting fence that passes the Due test becomes Cleared (R139). -/
def State.clearFences (s : State) : State := s.setFences (s.fences.list.map s.clearFence)

/-- Row time has passed the fence's last change plus the fence wait maximum (R141, R142). -/
def State.overdue (s : State) (f : Fence) : Bool := s.row.past (f.lastChange + second * s.fences.waitMax)

/-- A fence that expires (R141). -/
def State.expireFence (s : State) (f : Fence) : Fence :=
  { f with state := .voidedExpired, lastChange := s.now }

/-- Remove the fence at a position, count the drop and raise the event (R142). -/
def State.dropFenceAt (s : State) (position : Nat) : State :=
  ({ s with fences := { s.fences with list := s.fences.list.eraseIdx position, dropped := s.fences.dropped + 1 } } : State).raise .fenceDrop

/-- The list after every overdue fence has expired or been dropped, in list order (R136). -/
def State.sweptFences (s : State) : List Fence :=
  s.fences.list.filterMap fun f =>
    if s.overdue f then (if f.state = .waiting then some (s.expireFence f) else none) else some f

/-- An amended fence wait maximum acts at once on every fence in the list (R136). -/
def State.sweepFences (s : State) : State :=
  let l := s.sweptFences
  let gone := s.fences.list.length - l.length
  ({ s with fences := { s.fences with list := l, dropped := s.fences.dropped + BitVec.ofNat 16 gone } } : State).raiseIf
    (decide (0 < gone)) .fenceDrop

/-- Every Waiting fence becomes Voided with reason Restart (R143). -/
def State.voidFences (s : State) : State :=
  s.setFences (s.fences.list.map fun f =>
    if f.state = .waiting then { f with state := .voidedRestart, lastChange := s.now } else f)

/-- A Held answer inserts a Waiting fence (R138). -/
def State.insertFence (s : State) (i : FollowerId) (tag : Byte) (bound : Nat) : State :=
  let f : Fence := { follower := i, tag := tag, bound := bound, state := .waiting, lastChange := s.now, serial := s.fences.nextSerial }
  { s with fences := { s.fences with list := insertByBound f s.fences.list, nextSerial := s.fences.nextSerial + 1 } }

/-- The fences of a follower that are to be reported, in list order, at most `room` of them (R145). -/
def State.reportable (s : State) (i : FollowerId) (room : Nat) : List Fence :=
  (s.fences.list.filter fun f => f.follower == i && f.state != .waiting).take room

/-- The notice of a fence (R145). -/
def Fence.notice (f : Fence) : Notice := .fenceState f.tag f.bound f.state

/-- Remove the fences that a delivered Verdict carried (R89, R146). -/
def State.removeCarried (s : State) (serials : List Nat) : State :=
  s.setFences (s.fences.list.filter fun f => !serials.contains f.serial)

end Sys2Proof.Machine
end

