-- ==== Sys2Proof/Machine/Frames.lean ====
section
/-! DEFINITION. The rack bus frames and the reference mark frame, byte by byte (R170 to R173): the frames the part sends, and what it reads from a Reply and from a mark. -/

namespace Sys2Proof.Machine

/-- The start delimiter (R170). -/
def startDelimiter : Byte := 0xA6

/-- A rack bus frame: delimiter, type, length, fields, frame check (R170). -/
def busFrame (type : Byte) (fields : List Byte) : List Byte :=
  let covered := type :: BitVec.ofNat 8 fields.length :: fields
  startDelimiter :: (covered ++ checkBytes covered)

/-- The order kinds of R170. -/
def OrderKind.code : OrderKind → Byte
  | .step => 0x01
  | .hold => 0x02
  | .resume => 0x03
  | .resetAgent => 0x04

/-- The order kind that a byte names (R170). -/
def OrderKind.ofCode (b : Byte) : Option OrderKind :=
  if b = 0x01 then some .step
  else if b = 0x02 then some .hold
  else if b = 0x03 then some .resume
  else if b = 0x04 then some .resetAgent
  else none

/-- An absent order is 0x00 (R170, R175). -/
def orderByte (o : Option OrderKind) : Byte := o.elim 0x00 OrderKind.code

/-- The row states of R170. -/
def RowState.code : RowState → Byte
  | .warming => 0x00
  | .acquiring => 0x01
  | .locked => 0x02
  | .holdover => 0x03
  | .free => 0x04

/-- A Probe: invalid advice carries its values as 0 (R81, R170). -/
def probeFrame (slot sequence : Byte) (advice : Option (Int × Int)) (order : Option OrderKind) : List Byte :=
  let values := advice.getD (0, 0)
  busFrame 0x01 ([slot, sequence, boolByte advice.isSome] ++ beInt 6 values.1 ++ beInt 4 values.2 ++ [orderByte order])

/-- An Announce (R84, R170). -/
def announceFrame (rowTime : Nat) (state : RowState) (lastStep : Nat) : List Byte :=
  busFrame 0x04 (beBytes 8 rowTime ++ [state.code] ++ beBytes 8 lastStep)

/-- The notice codes of the answers (R170). -/
def Answer.code : Answer → Byte
  | .dated _ _ _ _ => 0x00
  | .notStorage => 0x01
  | .notReady => 0x02
  | .free => 0x03
  | .notTrusted => 0x04
  | .future => 0x05
  | .tooOld => 0x06
  | .rackDrift => 0x07
  | .tooUncertain => 0x08
  | .outOfRange => 0x09
  | .withdrawn => 0x0A
  | .clear => 0x0B
  | .far => 0x0C
  | .full => 0x0D
  | .held => 0x0E

/-- The flag byte of an answer: Holdover 0x01, Widened 0x02 (R170). -/
def Answer.flags : Answer → Byte
  | .dated _ _ holdover widened => (if holdover then 0x01 else 0x00) ||| (if widened then 0x02 else 0x00)
  | _ => 0x00

/-- The two values of an answer, 0 where it uses none (R170). -/
def Answer.values : Answer → Nat × Nat
  | .dated earliest latest _ _ => (earliest, latest)
  | _ => (0, 0)

/-- The notice codes of a fence (R170). A Waiting fence is never reported (R145). -/
def FenceState.noticeCode : FenceState → Byte
  | .waiting => 0x00
  | .cleared => 0x10
  | .voidedRestart => 0x11
  | .voidedExpired => 0x12

/-- The 20 bytes of a notice from its parts (R170). -/
def noticeBytes (type tag code flags : Byte) (first last : Nat) : List Byte :=
  [type, tag, code, flags] ++ beBytes 8 first ++ beBytes 8 last

/-- The 20 bytes of a notice (R170). -/
def Notice.bytes : Notice → List Byte
  | .date tag a => noticeBytes 0x01 tag a.code a.flags a.values.1 a.values.2
  | .fence tag a => noticeBytes 0x02 tag a.code a.flags a.values.1 a.values.2
  | .fenceState tag bound st => noticeBytes 0x03 tag st.noticeCode 0x00 bound 0

/-- A Verdict (R83, R170). -/
def verdictFrame (slot sequence : Byte) (notices : List Notice) : List Byte :=
  busFrame 0x03 ([slot, sequence, BitVec.ofNat 8 notices.length] ++ notices.flatMap Notice.bytes)

/-! ## The Reply -/

/-- An ask of a Reply (R82). -/
inductive Ask where
  | date (tag : Byte) (capture : Nat)
  | fence (tag : Byte) (bound : Nat)
deriving DecidableEq, Repr

/-- The result of an order acknowledgement (R82). -/
inductive AckResult where
  | done | refused
deriving DecidableEq, Repr

/-- The named contents of a Reply after its slot and sequence echo (R82). -/
structure Reply where
  t2 : Nat
  t3 : Nat
  holding : Bool
  restarted : Bool
  ack : Option (OrderKind × AckResult)
  asks : List Ask
deriving DecidableEq, Repr

/-- The ten bytes of each ask (R170, R171). -/
def parseAsks : Nat → List Byte → Option (List Ask)
  | 0, _ => some []
  | n + 1, kind :: tag :: rest =>
    let value := beNat (rest.take 8)
    let ask := if kind = 0x01 then some (Ask.date tag value) else if kind = 0x02 then some (Ask.fence tag value) else none
    match ask, parseAsks n (rest.drop 8) with
    | some a, some l => some (a :: l)
    | _, _ => none
  | _ + 1, _ => none

/-- The acknowledgement byte: kind in the high four bits, 0 for none, result in the low four (R170, R171). The outer `none` is a byte that names neither. -/
def parseAck (b : Byte) : Option (Option (OrderKind × AckResult)) :=
  if b = 0 then some none
  else
    match OrderKind.ofCode (b >>> 4), b &&& 0x0F with
    | some k, 0x01 => some (some (k, .done))
    | some k, 0x02 => some (some (k, .refused))
    | _, _ => none

/-- The fields of a Reply after its slot and sequence echo, by its length byte (R170, R171); `none` is an Overrun. -/
def parseReplyFields (length : Nat) (body : List Byte) : Option Reply :=
  let flags := body.getD 16 0
  let count := (body.getD 18 0).toNat
  if length < 21 ∨ 3 < count ∨ length ≠ 21 + 10 * count then none
  else
    match parseAck (body.getD 17 0), parseAsks count (body.drop 19) with
    | some ack, some asks =>
      some { t2 := beNat (body.take 8), t3 := beNat ((body.drop 8).take 8), holding := flags &&& 0x01 != 0,
             restarted := flags &&& 0x02 != 0, ack := ack, asks := asks }
    | _, _ => none

/-- The first three checks of R87 on the bytes that followed the start delimiter of the frame taken as the Reply, with the defects of R171: Check, then Stray, then Overrun. -/
def parseReply (slot sequence : Byte) (received : List Byte) : Except FaultKind Reply :=
  match received with
  | type :: length :: rest =>
    let fields := rest.take length.toNat
    let after := rest.drop length.toNat
    if after.length < 2 ∨ after.take 2 ≠ checkBytes (type :: length :: fields) then .error .check
    else if type ≠ 0x02 then .error .stray
    else
      match fields with
      | gotSlot :: gotSequence :: body =>
        if gotSlot ≠ slot ∨ gotSequence ≠ sequence then .error .stray
        else if 2 < after.length then .error .overrun
        else
          match parseReplyFields length.toNat body with
          | some r => .ok r
          | none => .error .overrun
      | _ => .error .stray
  | _ => .error .check

/-! ## What an agent sends -/

/-- The ten bytes of an ask (R170). -/
def Ask.bytes : Ask → List Byte
  | .date tag c => [0x01, tag] ++ beBytes 8 c
  | .fence tag l => [0x02, tag] ++ beBytes 8 l

/-- The acknowledgement byte of R170. -/
def ackByte : Option (OrderKind × AckResult) → Byte
  | none => 0x00
  | some (k, r) => (k.code <<< 4) ||| (match r with | .done => 0x01 | .refused => 0x02)

/-- The bytes that follow the start delimiter of a Reply as an agent sends it (R82, R170). -/
def replyBytes (slot sequence : Byte) (r : Reply) : List Byte :=
  (busFrame 0x02 ([slot, sequence] ++ beBytes 8 r.t2 ++ beBytes 8 r.t3 ++
    [(if r.holding then 0x01 else 0x00) ||| (if r.restarted then 0x02 else 0x00), ackByte r.ack, BitVec.ofNat 8 r.asks.length] ++
    r.asks.flatMap Ask.bytes)).tail

/-! ## The mark frame -/

/-- The label and declared uncertainty that a mark frame carries. -/
structure MarkFields where
  label : Nat
  declaredU : Nat
deriving DecidableEq, Repr

/-- What is read from the bytes that followed a mark's start delimiter: `none` where the frame has not the length of a mark frame or its check fails (R172, R173). -/
def parseMark (received : List Byte) : Option MarkFields :=
  let covered := received.take 13
  if received.length = 15 ∧ received.head? = some 0x0C ∧ received.drop 13 = checkBytes covered then
    some { label := beNat ((received.drop 1).take 8), declaredU := beNat ((received.drop 9).take 4) }
  else none

/-- The bytes that follow the start delimiter of a mark frame as a source sends it (R172). -/
def markBytes (m : MarkFields) : List Byte :=
  let covered := (0x0C : Byte) :: (beBytes 8 m.label ++ beBytes 4 m.declaredU)
  covered ++ checkBytes covered

end Sys2Proof.Machine
end

