-- ==== Sys2Proof/Machine/PortOps.lean ====
section
/-! DEFINITION. The rack port engine's shared operations: the sweep, the ends of an exchange (good, counted fault, crossing, abandonment), the fault budget and the port states (Chapter 5). -/

namespace Sys2Proof.Machine

/-! ## Intervals of elapsed oscillator time -/

/-- A number of nominal ns as elapsed oscillator time (R8). -/
def elapsedNs (ns : Nat) : Nat := unitsPerNs * ns

/-- The reply window in force on a port, as elapsed oscillator time (R75, R85). -/
def Port.window (q : Port) : Nat := elapsedNs (1000 * q.replyWindow)

/-! ## The sweep -/

/-- A follower is due on a port (R78). -/
def State.isDue (s : State) (p : RackId) (i : FollowerId) : Bool :=
  let f := s.follower i
  f.state.active && f.port == p && decide (f.nextDue ≤ s.now)

/-- The earlier next due, and for the same next due the lower slot (R79). -/
def Follower.before (f g : Follower) : Bool :=
  decide (f.nextDue < g.nextDue) || (f.nextDue == g.nextDue && decide (f.slot < g.slot))

/-- The better of the choice so far and a claimant. -/
def State.better (s : State) (best : Option FollowerId) (i : FollowerId) : Option FollowerId :=
  match best with
  | none => some i
  | some j => if (s.follower i).before (s.follower j) then some i else some j

/-- The one follower the sweep chooses on a port, if any is due (R79). -/
def State.sweepChoice (s : State) (p : RackId) : Option FollowerId :=
  (allFollowers.filter (s.isDue p)).foldl s.better none

/-- The effective period of R80. -/
def effectivePeriod (c : Nat) (d : DriftState) : Nat :=
  match d with
  | .leaning | .excess => max (basePeriod c / 2) 125000000
  | .unknown | .calm => basePeriod c

/-- The advanced next due of R80, exact. -/
def advancedDue (nextDue period t1 : Nat) : Nat :=
  if nextDue + period ≤ t1 then t1 + period else nextDue + period

/-! ## Port states and activities -/

/-- The port drives nothing and its activity becomes `a`. -/
def Port.rest (q : Port) (a : Activity) : Port :=
  { q with activity := a, exchange := none, transmitting := none }

/-- Begin transmitting a frame at this instant. -/
def State.transmission (s : State) (frame : List Byte) : Option Transmission :=
  some { frame := frame, start := s.elapsed }

/-- The fault budget counter is decremented; at 0 it is reloaded, counted and reported (R95). -/
def State.decrementBudget (s : State) (p : RackId) : State :=
  let q := s.port p
  if q.budget ≤ 1 then (s.setPort p { q with budget := q.budgetReload, degraded := q.degraded + 1 }).raiseRack p .degraded
  else s.setPort p { q with budget := q.budget - 1 }

/-- The exchange in flight is discarded and the port takes the activity `a`; a Retiring record becomes Vacant (R61, R90). -/
def State.endExchange (s : State) (p : RackId) (a : Activity) : State :=
  match (s.port p).exchange with
  | none => s
  | some x =>
    let t := s.setPort p ((s.port p).rest a)
    if (t.follower x.follower).state = .retiring then t.vacate x.follower else t

/-- An exchange ends in a counted fault (R66, R90, R95). `attempt` says whether the fault's row of R119 adds an attempt. -/
def State.faultExchange (s : State) (p : RackId) (k : FaultKind) (attempt : Bool) : State :=
  match (s.port p).exchange with
  | none => s
  | some x =>
    let i := x.follower
    let s := if attempt && x.order.isSome && (s.follower i).state != .retiring then s.addAttempt i else s
    ((s.countFault i k).decrementBudget p).endExchange p .idle

/-- The end of an exchange as Crossed, and the quiet window that follows; nothing on a port with no exchange in flight (R96). -/
def State.crossPort (s : State) (p : RackId) : State :=
  match (s.port p).exchange with
  | none => s
  | some _ =>
    let t := s.endExchange p .quiet
    t.setPort p { t.port p with quietEnd := some (t.elapsed + (t.port p).window) }

/-- Set the pending Announce of a Running port (R84). -/
def Rack.setAnnounce (r : Rack) : Rack :=
  if r.port.state = .running then { r with port := { r.port with pendingAnnounce := true } } else r

/-- What a forward step and RESTART-ROW deliver to every rack port engine (R23, R31): crossings, and the pending Announce of each Running port. -/
def State.crossAll (s : State) : State :=
  let t := allRacks.foldl State.crossPort s
  { t with racks := mapTable Rack.setAnnounce t.racks }

/-- A port leaves Running: the frame is cut off, an exchange ends Abandoned, the pending Announce and a quiet window are discarded (R77). -/
def State.leaveRunning (s : State) (p : RackId) (after : PortState) : State :=
  let t := s.endExchange p .idle
  t.setPort p { (t.port p).rest .idle with state := after, pendingAnnounce := false, quietEnd := none }

/-- AMEND-RACK with enabled = 1 (R76). -/
def State.enablePort (s : State) (p : RackId) : State :=
  let q := s.port p
  if q.state = .running then s
  else s.setPort p { q with state := .running, activity := .idle, pendingAnnounce := true }

/-- AMEND-RACK with enabled = 0 (R76, R77). -/
def State.disablePort (s : State) (p : RackId) : State :=
  let q := s.port p
  match q.state with
  | .running => s.leaveRunning p .disabled
  | .halted => s.setPort p { q with state := .disabled }
  | .disabled => s

end Sys2Proof.Machine
end

