-- ==== Sys2Proof/Machine/RowClock.lean ====
section
/-! DEFINITION. The Row Clock: advance, the used mark with its step and slew branches, the loss of the reference, and the restart (Chapter 2). -/

namespace Sys2Proof.Machine

/-! ## Advance (R14) -/

/-- `n` units of 2^-32 ns of elapsed oscillator time: row time advances at the rate (1 + s / 16,000,000,000), exactly, holding at the top of its range (R1, R14). -/
def Row.advance (r : Row) (n : Nat) : Row :=
  let exact := n * ((ruScale : Int) + r.s).toNat + r.residue
  ({ r with residue := exact % ruScale } : Row).setFine (r.fine + exact / ruScale)

/-- One unit of 2^-32 ns of elapsed oscillator time passes (log entry 1). -/
def State.tick (s : State) : State :=
  { s with
    elapsed := s.elapsed + 1
    row := { s.row.advance 1 with warmUp := s.row.warmUp - 1 }
    link := { s.link with startUp := s.link.startUp - 1 } }

/-! ## The used mark (R18 to R22) -/

/-- The state that a mark which would lock the row leaves (R21). -/
def Row.lockedOr (r : Row) : RowState := if r.urLimit < r.ur then .acquiring else .locked

/-- Row time set forward by the whole of `e` (R1, R19). -/
def Row.stepBy (r : Row) (e : Nat) : Row := r.setFine (r.fine + unitsPerNs * e)

/-- The row record after the step branch, its row state apart (R19); `size` is `e` as the last step size holds it. -/
def Row.stepWrites (r : Row) (e size u : Nat) : Row :=
  { r.stepBy e with lastStep := size, s := r.y, ur := u, rowSet := true }

/-- The clamped error e_c of R20. -/
def Row.clampedError (r : Row) (e : Int) : Int := max e (-(r.stepLimit : Int))

/-- The frequency memory after a slew (R20). -/
def Row.slewMemory (r : Row) (e : Int) : Int :=
  clampMag memoryMax (r.y + floorDiv (16 * r.clampedError e) (2 ^ r.gain))

/-- The steer after a slew (R20). -/
def Row.slewSteer (r : Row) (e : Int) : Int := clampMag steerMax (r.slewMemory e + 8 * r.clampedError e)

/-- The row record after the slew branch, its row state apart (R20). -/
def Row.slewWrites (r : Row) (e : Int) (u : Nat) : Row :=
  { r with y := r.slewMemory e, s := r.slewSteer e, ur := saturateU (u + e.natAbs), rowSet := true }

/-- The row state after the slew branch (R20, R21). -/
def Row.slewState (r : Row) (e : Int) (u : Nat) : RowState :=
  if e < -(r.stepLimit : Int) then .acquiring else (r.slewWrites e u).lockedOr

/-- The Second pulse condition is taken afresh, where row time or the row-set flag has just been written (R167). DESIGN CHOICE, unsafe (log entry 31): a first used mark that slews inside a pulse window asserts the condition at once, by the table of R167, although its last paragraph puts the first pulse at the first window entered after that mark. -/
def State.refreshPulse (s : State) : State := { s with pulseWindow := s.row.pulseCondition }

/-- The epoch of every record and the single boundary event of a step fall at one instant, and either may be taken first (R69, R150). -/
def State.epochAndBoundary (s : State) : State :=
  let s' := s.choose
  if Config.boundaryFirst s.choices then s'.deliverBoundary.rowEpochs else s'.rowEpochs.deliverBoundary

/-- The delivery of a forward step that passed `n` multiples of 100,000,000 ns (R23, R29). -/
def State.deliverStep (s : State) (n : Nat) : State :=
  let s := ({ s with boundaries := s.boundaries + n } : State).crossAll
  if 0 < n then s.epochAndBoundary else s.rowEpochs

/-- How many multiples of 100,000,000 ns a step carried row time past (R23, R29). -/
def Row.boundariesSince (r before : Row) : Nat :=
  r.multiplesPassed boundarySpacing - before.multiplesPassed boundarySpacing

/-- The step branch's own writes and events (R19, R21). -/
def State.stepRow (s : State) (e u : Nat) : State :=
  ((({ s.choose with row := s.row.stepWrites e (s.heldInstant e) u } : State).enterRowState
    (s.row.stepWrites e (s.heldInstant e) u).lockedOr).raise .rowStepped).refreshPulse

/-- The step branch, with its delivery to the other blocks (R19, R21, R23). -/
def State.stepMark (s : State) (e u : Nat) : State :=
  (s.stepRow e u).deliverStep ((s.stepRow e u).row.boundariesSince s.row)

/-- The slew branch (R20, R21). -/
def State.slewMark (s : State) (e : Int) (u : Nat) : State :=
  (({ s with row := s.row.slewWrites e u } : State).enterRowState (s.row.slewState e u)).refreshPulse

/-- A mark takes the step branch (R18). -/
def Row.steps (r : Row) (e : Int) : Bool := decide ((r.stepLimit : Int) < e)

/-- A used mark of phase error `e` and declared uncertainty `u` (R18). -/
def State.usedMark (s : State) (e : Int) (u : Nat) : State :=
  if s.row.steps e then s.stepMark e.toNat u else s.slewMark e u

/-! ## Losing the reference (R25) -/

/-- The loss of the in-use reference with none designated in its place: Acquiring and Locked are left, other row states keep everything (R25). -/
def State.loseReference (s : State) : State :=
  match s.row.state with
  | .acquiring | .locked =>
    ({ s with row := { s.row with entryTime := s.row.whole, entryUr := s.row.ur, s := s.row.y } } : State).enterRowState
      (if s.row.urLimit < s.row.ur then .free else .holdover)
  | .warming | .holdover | .free => s

/-! ## Restart (R30, R31) -/

/-- RESTART-ROW taken: the row record (R30). -/
def Row.restarted (r : Row) : Row := { r with s := r.y, ur := uMax }

/-- RESTART-ROW taken: the row record and every delivery of R31. -/
def State.restartRow (s : State) : State :=
  let t := (({ s with row := s.row.restarted } : State).enterRowState .acquiring).crossAll
  allRacks.foldl State.driftRestart t.rowEpochs.voidFences

end Sys2Proof.Machine
end

