-- ==== Sys2Proof/Machine/SelectorOps.lean ====
section
/-! DEFINITION. The Reference Selector: the judgement and recording of marks, qualification, the sanity check, failover and designation (Chapter 3). -/

namespace Sys2Proof.Machine

/-- The reference of a link input. -/
def linkReference : LinkInput → Reference
  | .hallA => .hallA
  | .hallB => .hallB
  | .neighbour => .neighbour

/-- A reference becomes the in-use reference: by replacement (R45), designation (R46) or SELECT (R47). -/
def State.putInUse (s : State) (r : Reference) : State :=
  let t := s.setRef r { s.ref r with rejects := 0 }
  ({ t with selector := { t.selector with inUse := some r, firstMark := true } } : State).raise .referenceSwitched

/-- A reference is Usable. -/
def State.usable (s : State) (r : Reference) : Bool := (s.ref r).state == .usable

/-- The backup, where it is Usable. -/
def State.usableBackup (s : State) : Option Reference := s.selector.backup.filter s.usable

/-- The reference that R45 and R46 name: the selected one if it is Usable, otherwise the backup if it is. -/
def State.candidate (s : State) : Option Reference :=
  if s.usable s.selector.selected then some s.selector.selected else s.usableBackup

/-- Designation, while the row is not Warming and no reference is in use (R46). -/
def State.designate (s : State) : State :=
  if s.row.state = .warming ∨ s.selector.inUse ≠ none then s
  else
    match s.candidate with
    | some r => s.putInUse r
    | none => s

/-- The in-use reference has left Usable: replaced, or lost (R45). -/
def State.failover (s : State) : State :=
  match s.candidate with
  | some r => s.putInUse r
  | none => ({ s with selector := { s.selector with inUse := none } } : State).loseReference

/-- A Usable reference becomes Faulted (R41, R42, R44, R50). -/
def State.faultReference (s : State) (r : Reference) : State :=
  let t := (s.setRef r { s.ref r with state := .faulted, qualifyCount := 0 }).raise .referenceFaulted
  if s.selector.inUse = some r then t.failover else t

/-- A mark as it is judged: the label and declared u read or computed, and the arrival stamp. -/
structure Mark where
  label : Nat
  declaredU : Nat
  arrival : Nat
deriving DecidableEq, Repr

/-- The phase error of a mark on a record (R18, R38). -/
def RefRecord.phaseError (v : RefRecord) (m : Mark) : Int :=
  (m.label : Int) + (v.compensation : Int) - (m.arrival : Int)

/-- The fields a recorded mark writes (R38, R40). -/
def RefRecord.record (v : RefRecord) (m : Mark) (consistent : Bool) : RefRecord :=
  { v with
    lastLabel := m.label
    lastU := m.declaredU
    lastArrival := m.arrival
    lastError := if consistent then v.phaseError m else v.lastError }

/-- The state and count that a consistent mark moves a record to (R41). -/
def RefRecord.qualify (v : RefRecord) : RefRecord :=
  match v.state with
  | .absent | .faulted => { v with state := .qualifying, qualifyCount := 1 }
  | .qualifying => if 4 ≤ v.qualifyCount then { v with state := .usable, qualifyCount := 5 } else { v with qualifyCount := v.qualifyCount + 1 }
  | .usable => v

/-- The sanity check rejects a mark of this error, exempt or not (R44). -/
def State.insane (s : State) (e : Int) (exempt : Bool) : Bool :=
  s.row.state == .locked && !exempt && decide (s.row.sanityLimit < e.natAbs)

/-- A rejection, the third of which faults the reference (R44). -/
def State.rejectMark (s : State) (r : Reference) : State :=
  let v := s.ref r
  let t := s.setRef r { v with rejects := v.rejects + 1 }
  if 3 ≤ v.rejects + 1 then t.faultReference r else t

/-- The arrival that a passed mark leaves recorded: the stamp, or the stamp plus `e` where it steps the row (R42). -/
def State.passedArrival (s : State) (r : Reference) (e : Int) : Nat :=
  if s.row.steps e then s.heldInstant ((s.ref r).lastArrival + e.toNat) else (s.ref r).lastArrival

/-- A mark passed to the Row Clock, whose arrival is recorded on the stepped scale where it steps the row (R42, R43, R44). -/
def State.passMark (s : State) (r : Reference) (e : Int) (u : Nat) : State :=
  (s.choose.setRef r { s.ref r with rejects := 0, lastArrival := s.passedArrival r e }).usedMark e u

/-- A consistent mark of the in-use reference: passed, unless the row is Warming or the sanity check rejects it (R16, R43, R44). -/
def State.inUseMark (s : State) (r : Reference) (e : Int) (u : Nat) : State :=
  let exempt := s.selector.firstMark
  let t : State := { s with selector := { s.selector with firstMark := false } }
  if s.row.state = .warming then t
  else if s.insane e exempt then t.rejectMark r
  else t.passMark r e u

/-- A consistent mark: recorded, it moves its record, and is passed where its reference was in use (R38, R41, R43). -/
def State.consistentMark (s : State) (r : Reference) (m : Mark) : State :=
  let v := s.ref r
  let t := s.setRef r ((v.record m true).qualify)
  if s.selector.inUse = some r then t.inUseMark r (v.phaseError m) m.declaredU
  else t.designate

/-- The results of an inconsistent mark on its record (R41). -/
def State.inconsistentMark (s : State) (r : Reference) : State :=
  let v := s.ref r
  match v.state with
  | .usable => s.faultReference r
  | .qualifying => s.setRef r { v with qualifyCount := 0 }
  | .absent | .faulted => s

/-- A link mark's conditions 2 to 4 (R37). -/
def RefRecord.linkConsistent (v : RefRecord) (m : Mark) : Bool :=
  decide (m.label % second = 0) && decide (m.declaredU ≤ v.ceiling) &&
    (v.state == .absent || v.state == .faulted || m.label == second + v.lastLabel)

/-- A Pulse mark's conditions (R40). -/
def RefRecord.pulseConsistent (v : RefRecord) (m : Mark) : Bool :=
  decide (v.fixedU ≤ v.ceiling) &&
    (v.state == .absent || v.state == .faulted ||
      (decide (999900000 + v.lastArrival ≤ m.arrival) && decide (m.arrival ≤ 1000100000 + v.lastArrival)))

/-- A recorded mark is judged (R38, R40, R41). -/
def State.judgeMark (s : State) (r : Reference) (m : Mark) (consistent : Bool) : State :=
  if consistent then s.consistentMark r m
  else (s.setRef r ((s.ref r).record m false)).inconsistentMark r

/-- The label of a Pulse edge before its range is considered (R39). -/
def pulseLabelExact (arrival compensation : Nat) : Int :=
  second * nearestDiv ((arrival : Int) - compensation) second

end Sys2Proof.Machine
end

