-- ==== Sys2Proof/Machine/Stages.lean ====
section
/-! DEFINITION. What happens to a Reply: the last two checks of R87 and the five stages of R88 (the Estimator of Chapter 6, the settling of Chapter 4, the acknowledgement of Chapter 7, the Dating Unit of Chapter 8, the Fence asks of Chapter 9, the Verdict). -/

namespace Sys2Proof.Machine

/-- The two row-time stamps and the two agent readings of an exchange (R98). -/
structure Timestamps where
  t1 : Nat
  t2 : Nat
  t3 : Nat
  t4 : Nat
deriving DecidableEq, Repr

/-! ## Delay, offset and rate (R100 to R106) -/

/-- The round trip R (R100). -/
def Timestamps.roundTrip (x : Timestamps) : Int := (x.t4 : Int) - x.t1

/-- The turnaround A (R100). -/
def Timestamps.turnaround (x : Timestamps) : Int := (x.t3 : Int) - x.t2

/-- The delay d (R87, R100). -/
def Timestamps.delay (x : Timestamps) : Int := floorDiv (x.roundTrip - x.turnaround) 2

/-- The raw offset θraw (R101). -/
def Timestamps.rawOffset (x : Timestamps) : Int :=
  floorDiv (((x.t2 : Int) - x.t1) + ((x.t3 : Int) - x.t4)) 2

/-- The corrected offset θc (R102). -/
def Timestamps.correctedOffset (x : Timestamps) (asymmetry : Int) : Int := heldOffset (x.rawOffset - asymmetry)

/-- The checks Causality and Delay (R87). -/
def Timestamps.fault (x : Timestamps) (ceiling : Nat) : Option FaultKind :=
  if x.turnaround < 0 ∨ x.roundTrip < x.turnaround then some .causality
  else if (ceiling : Int) < x.delay then some .delay
  else none

/-- The published uncertainty, with the row state and Ur captured with t4 (R103). -/
def publishedU (c : Capture) (delay baseError : Nat) : Nat :=
  match c.rowState with
  | .locked | .holdover => saturateU (delay + baseError + c.ur)
  | .warming | .acquiring | .free => uMax

/-- The raw rate r_raw (R105). -/
def rawRate (theta thetaPrev : Int) (interval : Nat) : Int :=
  clampMag rateMax (floorDiv (ruScale * (theta - thetaPrev)) interval)

/-- The smoothing step (R105). -/
def smoothedRate (old raw : Int) (shift : Nat) : Int := old + floorDiv (raw - old) (2 ^ shift)

/-- A rate is computed at this exchange (R104). -/
def Follower.ratePermitted (f : Follower) (restarted : Bool) (t4 : Nat) : Bool :=
  f.rateBase && !restarted && decide (rateGuard + f.published.t4 ≤ t4)

/-- The rate of the published slot, or 0 where there is none (R105). -/
def Follower.oldRate (f : Follower) : Int := if f.published.valid then f.published.rate else 0

/-- r_new (R105, R106). -/
def Follower.newRate (f : Follower) (theta : Int) (restarted : Bool) (t4 : Nat) : Int :=
  if f.ratePermitted restarted t4 then
    smoothedRate f.oldRate (rawRate theta f.published.theta (t4 - f.published.t4)) f.shift
  else f.oldRate

/-- Write the slot the selector does not name and flip the selector; the rate base becomes valid (R107). -/
def Follower.publish (f : Follower) (e : Estimate) : Follower :=
  match f.selector with
  | .a => { f with slotB := e, selector := .b, rateBase := true }
  | .b => { f with slotA := e, selector := .a, rateBase := true }

/-- The estimate of stage 1 (R100 to R107). -/
def Follower.estimate (f : Follower) (q : Port) (x : Timestamps) (c : Capture) (restarted : Bool) : Estimate :=
  let theta := x.correctedOffset q.asymmetry
  let d := x.delay.toNat
  { valid := true, theta := theta, rate := f.newRate theta restarted x.t4, delay := d,
    uPub := publishedU c d q.baseError, t4 := x.t4 }

/-! ## Stage 2 (R64, R65) -/

/-- The updates of R64 before the settle counting. -/
def Follower.goodExchange (f : Follower) (t4 : Nat) : Follower :=
  { f with goodCount := f.goodCount + 1, consecutiveFaults := 0, freshSince := t4 }

/-- The row is Locked or in Holdover. -/
def RowState.following : RowState → Bool
  | .locked | .holdover => true
  | .warming | .acquiring | .free => false

/-- Stage 2 of a good exchange whose corrected offset is `theta` (R64, R65). -/
def State.settleStage (s : State) (p : RackId) (i : FollowerId) (theta : Int) (t4 : Nat) : State :=
  let f := (s.follower i).goodExchange t4
  match f.state with
  | .stale => s.setFollower i f.resettle
  | .settling =>
    if (s.rack p).trustOffset < theta.natAbs then s.setFollower i f.resettle
    else if s.row.state.following then
      if f.settleCount ≤ 1 then
        (s.setFollower i { f with state := .trusted, settleCount := 0 }).noticeIf f.notify.onTrusted i
      else s.setFollower i { f with settleCount := f.settleCount - 1 }
    else s.setFollower i f
  | .trusted =>
    if (s.rack p).trustOffset < theta.natAbs then s.setFollower i f.resettle else s.setFollower i f
  | .vacant | .muted | .retiring => s

/-! ## Stage 3 (R116 to R119) -/

/-- What a Done acknowledgement does to the record, at row time `now` (R117). -/
def Follower.acknowledgeDone (f : Follower) (k : OrderKind) (now : Nat) : Follower :=
  let settled : Follower := if f.state.active then (f.epoch now).resettle else f.epoch now
  match k with
  | .step => settled
  | .hold => { f with holding := true }
  | .resume => { f with holding := false }
  | .resetAgent => { settled with holding := false }

/-- A taken acknowledgement (R116, R117, R118). -/
def State.takeAck (s : State) (i : FollowerId) (k : OrderKind) (r : AckResult) : State :=
  match r with
  | .done => (s.setFollower i ((s.follower i).acknowledgeDone k s.now)).endOrder i .done
  | .refused => s.endOrder i .refused

/-- The holding report of a Reply that takes no acknowledgement (R116). -/
def State.holdingReport (s : State) (i : FollowerId) (flag : Bool) : State :=
  let f := s.follower i
  if f.holding = flag then s
  else
    let t := s.setFollower i { f with holding := flag }
    if flag ∧ f.pendingOrder.map (·.kind) = some .step then t.endOrder i .cancelled else t

/-- Stage 3: the acknowledgement is taken where its kind is the kind the Probe carried; otherwise an attempt is added where the Probe carried an order, and the holding report is read (R116, R119). -/
def State.orderStage (s : State) (i : FollowerId) (carried : Option OrderKind) (r : Reply) : State :=
  match r.ack with
  | some (k, result) =>
    if carried = some k then s.takeAck i k result
    else (if carried.isSome then s.addAttempt i else s).holdingReport i r.holding
  | none => (if carried.isSome then s.addAttempt i else s).holdingReport i r.holding

/-! ## Date asks (R125 to R132) -/

/-- The penalty P, where the policy does not refuse (R130). -/
def Rack.penalty (r : Rack) : Nat :=
  match r.drift.warning with
  | .none => 0
  | .watch => r.rackPenalty
  | .drift => 4 * r.rackPenalty

/-- The row time of the capture x = c − θ_c (R128). -/
def Follower.captureTime (f : Follower) (capture : Nat) (age : Int) : Int :=
  (capture : Int) - heldOffset (f.published.theta - floorDiv (f.published.rate * age) ruScale)

/-- U_date (R129, R130). -/
def Follower.dateU (f : Follower) (age penalty : Nat) : Nat :=
  saturateU (f.published.uPub + growth f.wander age + penalty)

/-- The interval of R132. -/
def dateInterval (x : Int) (u : Nat) (holdover widened : Bool) : Answer :=
  if x + u < 0 ∨ (instantMax : Int) < x - u then .outOfRange
  else .dated (max (x - u) 0).toNat (min (x + u) instantMax).toNat holdover widened

/-- The answer to a Date ask (R125, R131, R132). -/
def dateAnswer (state : RowState) (f : Follower) (r : Rack) (t3 capture : Nat) : Answer :=
  let age : Int := (t3 : Int) - capture
  if f.kind = .server then .notStorage
  else if state = .warming ∨ state = .acquiring then .notReady
  else if state = .free then .free
  else if f.state ≠ .trusted then .notTrusted
  else if age < 0 then .future
  else if (f.maxAge : Int) < age then .tooOld
  else if r.drift.warning = .drift ∧ r.driftPolicy = .refuse then .rackDrift
  else
    let u := f.dateU age.toNat r.penalty
    if r.dateCeiling < u then .tooUncertain
    else dateInterval (f.captureTime capture age) u (state == .holdover) (decide (0 < r.penalty))

/-! ## Fence asks (R137) -/

/-- Check 3 of R137: t4 − Ur(t4) is greater than the bound, made only when the row state captured with t4 was Locked, Holdover or Acquiring. -/
def Capture.clears (c : Capture) (bound : Nat) : Bool :=
  match c.rowState with
  | .locked | .holdover | .acquiring => decide (bound + c.ur < c.t4)
  | .warming | .free => false

/-- The answer to a Fence ask (R137). -/
def State.fenceAnswer (s : State) (f : Follower) (c : Capture) (bound : Nat) : Answer :=
  if f.kind = .server then .notStorage
  else if s.row.state = .warming ∨ s.row.state = .acquiring then .notReady
  else if s.row.state = .free then .free
  else if c.clears bound then .clear
  else if c.t4 + second * s.fences.horizon < bound then .far
  else if 64 ≤ s.fences.list.length then .full
  else .held

/-! ## Stage 4 (R88) -/

/-- One ask of a Settling, Trusted or Stale record, with the notice that answers it (R88, R137, R138). -/
def State.answerAsk (s : State) (p : RackId) (i : FollowerId) (c : Capture) (t3 : Nat) (a : Ask) : State × Notice :=
  match a with
  | .date tag capture => (s, .date tag (dateAnswer s.row.state (s.follower i) (s.rack p) t3 capture))
  | .fence tag bound =>
    let answer := s.fenceAnswer (s.follower i) c bound
    (if answer = .held then s.insertFence i tag bound else s, .fence tag answer)

/-- The asks in ask order (R123). -/
def State.answerAsks (s : State) (p : RackId) (i : FollowerId) (c : Capture) (t3 : Nat) : List Ask → State × List Notice
  | [] => (s, [])
  | a :: rest =>
    let one := s.answerAsk p i c t3 a
    let more := one.1.answerAsks p i c t3 rest
    (more.1, one.2 :: more.2)

/-- The answer Withdrawn to an ask of a Muted record (R88). -/
def Ask.withdrawn : Ask → Notice
  | .date tag _ => .date tag .withdrawn
  | .fence tag _ => .fence tag .withdrawn

/-! ## Stage 5 (R83, R145) -/

/-- A fence inserted at stage 4 may pass the Due test at once, and its clearing and stage 5 fall together: either may be taken first (R138). -/
def State.clearBeforeVerdict (s : State) : State :=
  if s.fences.list.any s.clearable then
    if Config.clearFirst s.choices then s.choose.clearFences else s.choose
  else s

/-- Build the Verdict from the answers and the follower's fence notices, and begin transmitting it (R83, R88, R145). -/
def State.sendVerdict (s : State) (p : RackId) (x : Exchange) (answers : List Notice) : State :=
  let q := s.port p
  let reported := s.reportable x.follower (6 - answers.length)
  let notices := answers ++ reported.map Fence.notice
  let slot : Byte := BitVec.ofNat 8 (s.follower x.follower).slot.val
  s.setPort p { q with
    exchange := some { x with phase := .verdict, notices := notices, carried := reported.map (·.serial) }
    transmitting := s.transmission (verdictFrame slot x.sequence notices) }

/-! ## The stages together (R88) -/

/-- Stage 1 (R98, R107). -/
def State.estimateStage (s : State) (p : RackId) (i : FollowerId) (x : Timestamps) (c : Capture) (restarted : Bool) : State :=
  let f := s.follower i
  s.setFollower i (f.publish (f.estimate (s.port p) x c restarted))

/-- The port's pending Announce set by a restarted flag (R82). -/
def State.restartedAnnounce (s : State) (p : RackId) (restarted : Bool) : State :=
  if restarted then s.setRack p (s.rack p).setAnnounce else s

/-- A Reply that passed every check, by the state of the addressed record (R88). -/
def State.processReply (s : State) (p : RackId) (x : Exchange) (c : Capture) (r : Reply) : State :=
  let i := x.follower
  let stamps : Timestamps := ⟨x.t1, r.t2, r.t3, c.t4⟩
  let s := s.restartedAnnounce p r.restarted
  match (s.follower i).state with
  | .settling | .trusted | .stale =>
    let s1 := s.estimateStage p i stamps c r.restarted
    let s2 := s1.settleStage p i (stamps.correctedOffset (s.port p).asymmetry) c.t4
    let s3 := s2.orderStage i x.order r
    let s4 := s3.answerAsks p i c r.t3 r.asks
    s4.1.clearBeforeVerdict.sendVerdict p x s4.2
  | .muted => (s.orderStage i x.order r).clearBeforeVerdict.sendVerdict p x (r.asks.map Ask.withdrawn)
  | .vacant | .retiring => s.endExchange p .idle

/-- The frame taken as the Reply has been received: checked, then faulted or processed (R87, R88). -/
def State.receiveReply (s : State) (p : RackId) (x : Exchange) (c : Capture) (received : List Byte) : State :=
  let slot : Byte := BitVec.ofNat 8 (s.follower x.follower).slot.val
  match parseReply slot x.sequence received with
  | .error k => s.faultExchange p k true
  | .ok r =>
    match (⟨x.t1, r.t2, r.t3, c.t4⟩ : Timestamps).fault (s.port p).delayCeiling with
    | some k => s.faultExchange p k true
    | none => s.processReply p x c r

end Sys2Proof.Machine
end

