-- ==== Sys2Proof/Machine/Due.lean ====
section
/-! DEFINITION. When each event that the part brings about by itself takes place: the condition each of those commands tests, and the list of the events that are due at an instant (R8, R27, R29, R42, R78, R85, R93, R96, R139, R141, R142, R160, R167). A command whose condition does not hold changes nothing (log entry 2). -/

namespace Sys2Proof.Machine

/-- The warm-up timer has run out (R16). -/
def State.warmUpDue (s : State) : Bool := s.row.state == .warming && s.row.warmUp == 0

/-- The start-up interval has run out (R160). -/
def State.startUpDue (s : State) : Bool := !s.link.ready && s.link.startUp == 0

/-- A reference's missing-mark interval has run out (R42). -/
def State.missingDue (s : State) (r : Reference) : Bool :=
  let v := s.ref r
  (v.state == .qualifying || v.state == .usable) && s.row.past (missingMarkInterval + v.lastArrival)

/-- A row in Holdover has an Ur above the Ur limit (R27). -/
def State.freeDue (s : State) : Bool := s.row.state == .holdover && decide (s.row.urLimit < s.row.currentUr)

/-- Row time has passed a multiple of 100,000,000 ns whose boundary event has not been raised (R29). -/
def State.boundaryDue (s : State) : Bool := decide (s.boundaries < s.row.multiplesPassed boundarySpacing)

/-- An expiry of a rack's persistence counter stands (R153). -/
def State.persistenceDue (s : State) (p : RackId) : Bool := (s.rack p).drift.persistence.standing

/-- An expiry of a rack's calm counter stands (R154). -/
def State.calmDue (s : State) (p : RackId) : Bool := (s.rack p).drift.calm.standing

/-- Row time has entered a pulse window with the row-set flag true (R167). -/
def State.pulseStartDue (s : State) : Bool := s.row.pulseCondition && !s.pulseWindow

/-- The Second pulse condition has ceased to hold (R167). -/
def State.pulseEndDue (s : State) : Bool := s.pulseWindow && !s.row.pulseCondition

/-- Some Waiting fence passes the Due test (R139). -/
def State.clearingDue (s : State) : Bool := s.fences.list.any s.clearable

/-- The fence at a position is Waiting and its wait has run out (R141). -/
def State.expiryDue (s : State) (k : Fin 64) : Bool :=
  match s.fences.list[k.val]? with
  | some f => f.state == .waiting && s.overdue f
  | none => false

/-- The fence at a position is Cleared or Voided and its wait has run out (R142). -/
def State.dropDue (s : State) (k : Fin 64) : Bool :=
  match s.fences.list[k.val]? with
  | some f => f.state != .waiting && s.overdue f
  | none => false

/-- A Running port is Idle (R78). -/
def Port.idleRunning (q : Port) : Bool := q.state == .running && q.activity == .idle

/-- An Idle Running port has a pending Announce (R84). -/
def State.announceDue (s : State) (p : RackId) : Bool := (s.port p).idleRunning && (s.port p).pendingAnnounce

/-- An Idle Running port without a pending Announce has a due follower (R78, R79). -/
def State.exchangeDue (s : State) (p : RackId) : Bool :=
  (s.port p).idleRunning && !(s.port p).pendingAnnounce && (s.sweepChoice p).isSome

/-- The reply window of an exchange has run out with no frame taken (R85). -/
def State.replyWindowDue (s : State) (p : RackId) : Bool :=
  match (s.port p).exchange with
  | some x => x.phase == .awaiting && x.reply.isNone && x.windowEnd.any fun e => decide (e ≤ s.elapsed)
  | none => false

/-- The quiet window of a port has run out (R96). -/
def State.quietDue (s : State) (p : RackId) : Bool :=
  (s.port p).activity == .quiet && (s.port p).quietEnd.any fun e => decide (e ≤ s.elapsed)

/-- A transmission has lasted longer than 400 µs (R93). -/
def State.guardDue (s : State) (p : RackId) : Bool :=
  (s.port p).transmitting.any fun t => decide (t.start + elapsedNs transmitGuard < s.elapsed)

/-- A command, if its condition holds. -/
def dueIf (c : Bool) (i : Instr) : List Instr := if c then [i] else []

/-- The events due on one rack and its port. -/
def State.dueOnRack (s : State) (p : RackId) : List Instr :=
  dueIf (s.persistenceDue p) (.persistenceExpiry p) ++ dueIf (s.calmDue p) (.calmExpiry p) ++
  dueIf (s.guardDue p) (.transmitGuardTrip p) ++ dueIf (s.replyWindowDue p) (.replyWindowExpiry p) ++
  dueIf (s.quietDue p) (.quietWindowEnd p) ++ dueIf (s.announceDue p) (.announceStart p) ++
  dueIf (s.exchangeDue p) (.exchangeStart p)

/-- The positions of the Fence List in order. -/
def allPositions : List (Fin 64) := List.finRange 64

/-- Every event that is due at this instant. -/
def State.dueEvents (s : State) : List Instr :=
  dueIf s.warmUpDue .warmUpEnd ++ dueIf s.startUpDue .startUpIntervalEnd ++
  [Reference.hallA, .hallB, .neighbour, .pulse].flatMap (fun r => dueIf (s.missingDue r) (.missingMarkExpiry r)) ++
  dueIf s.freeDue .holdoverToFree ++ dueIf s.boundaryDue .boundaryEvent ++
  dueIf s.pulseStartDue .secondPulseWindowStart ++ dueIf s.pulseEndDue .secondPulseWindowEnd ++
  dueIf s.clearingDue .fenceClearing ++
  allPositions.flatMap (fun k => dueIf (s.expiryDue k) (.fenceExpiry k) ++ dueIf (s.dropDue k) (.fenceDrop k)) ++
  allRacks.flatMap s.dueOnRack

end Sys2Proof.Machine
end

