-- ==== Sys2Proof/Machine/ClockEvents.lean ====
section
/-! DEFINITION. The meanings of the reset, clock and timer events: POWER_ON_RESET, WARM_UP_END, START_UP_INTERVAL_END, HOLDOVER_TO_FREE, BOUNDARY_EVENT, PERSISTENCE_EXPIRY, CALM_EXPIRY, SECOND_PULSE_WINDOW_START, SECOND_PULSE_WINDOW_END. -/

namespace Sys2Proof.Machine

/-- POWER_ON_RESET (R11, R34, R35, R51, R74, R135, R148, R159, R163, R166): every field at its power-on value, and any management frame ended. The level of MCS, the two queues and the count of free values are not the part's to write and stay. -/
def execPowerOnReset (s : State) : Result :=
  .next { State.reset with
    link := { Link.powerOn with frame := s.link.frame.afterReset }, pending := s.pending, wires := s.wires, choices := s.choices }

/-- The row leaves Warming (R16). -/
def State.endWarmUp (s : State) : State :=
  (({ s with row := { s.row with s := s.row.y } } : State).enterRowState .acquiring).designate

/-- WARM_UP_END (R16, R46). -/
def execWarmUpEnd (s : State) : Result :=
  .next (if s.warmUpDue then s.endWarmUp else s)

/-- START_UP_INTERVAL_END (R160). -/
def execStartUpIntervalEnd (s : State) : Result :=
  .next (if s.startUpDue then { s with link := { s.link with ready := true } } else s)

/-- HOLDOVER_TO_FREE (R27). -/
def execHoldoverToFree (s : State) : Result :=
  .next (if s.freeDue then s.enterRowState .free else s)

/-- BOUNDARY_EVENT (R29, R150). -/
def execBoundaryEvent (s : State) : Result :=
  .next (if s.boundaryDue then ({ s with boundaries := s.boundaries + 1 } : State).deliverBoundary else s)

/-- PERSISTENCE_EXPIRY (R152, R153). -/
def execPersistenceExpiry (rack : RackId) (s : State) : Result := .next (s.takePersistenceExpiry rack)

/-- CALM_EXPIRY (R152, R154). -/
def execCalmExpiry (rack : RackId) (s : State) : Result := .next (s.takeCalmExpiry rack)

/-- SECOND_PULSE_WINDOW_START (R167). -/
def execSecondPulseWindowStart (s : State) : Result :=
  .next (if s.pulseStartDue then { s with pulseWindow := true } else s)

/-- SECOND_PULSE_WINDOW_END (R167). -/
def execSecondPulseWindowEnd (s : State) : Result :=
  .next (if s.pulseEndDue then { s with pulseWindow := false } else s)

end Sys2Proof.Machine
end

