-- ==== Sys2Proof/Machine/FenceEvents.lean ====
section
/-! DEFINITION. The meanings of the Fence List's own events: FENCE_CLEARING, FENCE_EXPIRY, FENCE_DROP. -/

namespace Sys2Proof.Machine

/-- FENCE_CLEARING (R139): every Waiting fence that passes the Due test at this instant. -/
def execFenceClearing (s : State) : Result :=
  .next (if s.clearingDue then s.clearFences else s)

/-- FENCE_EXPIRY (R141). -/
def execFenceExpiry (position : Fin 64) (s : State) : Result :=
  .next (if s.expiryDue position then s.setFences (s.fences.list.modify position.val s.expireFence) else s)

/-- FENCE_DROP (R142). -/
def execFenceDrop (position : Fin 64) (s : State) : Result :=
  .next (if s.dropDue position then s.dropFenceAt position.val else s)

end Sys2Proof.Machine
end

