-- ==== Sys2Proof/Machine/Operands.lean ====
section
/-! DEFINITION. How a request's operands are decoded at the instant it takes effect (R161, R174, R176), and the result bytes that the reads return (R174, R175). -/

namespace Sys2Proof.Machine

/-! ## Enumerations and identifiers -/

/-- References (R174). -/
def referenceOf (b : Byte) : Option Reference :=
  if b = 0x00 then some .hallA
  else if b = 0x01 then some .hallB
  else if b = 0x02 then some .neighbour
  else if b = 0x03 then some .pulse
  else none

/-- A rack or port number, 0 to 11 (R176). -/
def rackOf (b : Byte) : Option RackId := if h : b.toNat < 12 then some ⟨b.toNat, h⟩ else none

/-- A slot, 0 to 39 (R176). -/
def slotOf (b : Byte) : Option (Fin 40) := if h : b.toNat < 40 then some ⟨b.toNat, h⟩ else none

/-- A line number, 0 to 3 (R176). -/
def lineOf (b : Byte) : Option (Fin 4) := if h : b.toNat < 4 then some ⟨b.toNat, h⟩ else none

/-- A follower index: every byte names one (R51). -/
def followerOf (b : Byte) : FollowerId := ⟨b.toNat, b.isLt⟩

/-- Kinds (R174). -/
def kindOf (b : Byte) : Option AgentKind :=
  if b = 0x00 then some .server else if b = 0x01 then some .storage else none

/-- Drift policies (R174). -/
def policyOf (b : Byte) : Option DriftPolicy :=
  if b = 0x00 then some .widen else if b = 0x01 then some .refuse else none

/-- A byte that is 0x00 or 0x01: enabled, polarity, level (R174). -/
def bitOf (b : Byte) : Option Bool :=
  if b = 0x00 then some false else if b = 0x01 then some true else none

/-- Line functions, in the order of the table of R167 (R174). -/
def functionOf (b : Byte) : Option LineFunction :=
  [LineFunction.level, .anyWarning, .anyDrift, .oneRack, .notLocked, .holdover, .secondPulse, .fenceBacklog, .portHalted][b.toNat]?

/-- Notify flags: on-trusted 0x01, on-stale 0x02, on-order 0x04; other bits are ignored (R174, R176). -/
def notifyOf (b : Byte) : NotifyFlags := ⟨b.getLsbD 0, b.getLsbD 1, b.getLsbD 2⟩

/-- A presence bit that is 0 marks its field as unchanged (R176). -/
def marked {α : Type} (presence bit : Nat) (v : α) : Option α := if presence.testBit bit then some v else none

/-! ## Parameters of a follower (R54, R56) -/

/-- Period class clamped (R54). -/
def clampClass (b : Byte) : Nat := clampNat 0 4 b.toNat

/-- Settle reload clamped (R54). -/
def clampReload (b : Byte) : Nat := clampNat 1 15 b.toNat

/-- G clamped (R54). -/
def clampWander (v : BitVec 16) : Nat := clampNat 0 16000 v.toNat

/-- k clamped (R54). -/
def clampShift (b : Byte) : Nat := clampNat 0 7 b.toNat

/-- Max date age clamped (R54). -/
def clampMaxAge (v : BitVec 32) : Nat := clampNat 1000000 2000000000 v.toNat

/-- G of ENROL: 0xFFFF marks the default (R54, R176). -/
def enrolWander (v : BitVec 16) : Nat := if v = 0xFFFF#16 then 800 else clampWander v

/-- k of ENROL: 0xFF marks the default (R54, R176). -/
def enrolShift (b : Byte) : Nat := if b = 0xFF#8 then 2 else clampShift b

/-- Max date age of ENROL: 0xFFFFFFFF marks the default (R54, R176). -/
def enrolMaxAge (v : BitVec 32) : Nat := if v = 0xFFFFFFFF#32 then 100000000 else clampMaxAge v

/-- The record that ENROL writes at row time `now` (R55). -/
def enrolled (port : RackId) (slot : Fin 40) (kind : AgentKind) (o : FollowerOperands) (now : Nat) : Follower :=
  { Follower.powerOn with
    state := .settling
    port := port
    slot := slot
    kind := kind
    periodClass := clampClass o.periodClass
    settleReload := clampReload o.reload
    settleCount := clampReload o.reload
    wander := enrolWander o.wander
    shift := enrolShift o.shift
    maxAge := enrolMaxAge o.maxAge
    notify := notifyOf o.flags
    freshSince := now
    nextDue := now }

/-- A new settle reload; a Settling record's count above it is set equal to it (R56). -/
def Follower.amendReload (f : Follower) (reload : Nat) : Follower :=
  { f with
    settleReload := reload
    settleCount := if f.state = .settling then min f.settleCount reload else f.settleCount }

/-- The marked fields of AMEND-FOLLOWER written (R56); presence bits 0 to 6 (R174). -/
def Follower.amend (f : Follower) (presence : Nat) (o : FollowerOperands) : Follower :=
  let f := match marked presence 0 o.kind >>= kindOf with | some k => { f with kind := k } | none => f
  let f := match marked presence 1 o.periodClass with | some v => { f with periodClass := clampClass v } | none => f
  let f := match marked presence 2 o.reload with | some v => f.amendReload (clampReload v) | none => f
  let f := match marked presence 3 o.wander with | some v => { f with wander := clampWander v } | none => f
  let f := match marked presence 4 o.shift with | some v => { f with shift := clampShift v } | none => f
  let f := match marked presence 5 o.maxAge with | some v => { f with maxAge := clampMaxAge v } | none => f
  match marked presence 6 o.flags with | some v => { f with notify := notifyOf v } | none => f

/-! ## Parameters of a rack (R53, R75, R124, R149) -/

/-- A marked field's new value, or the value in force. -/
def newOr {α : Type} (presence bit : Nat) (v old : α) : α := if presence.testBit bit then v else old

/-- The marked port parameters written (R75); an amendment of B reloads the budget counter (R95). -/
def Port.amend (q : Port) (presence : Nat) (o : RackOperands) : Port :=
  { q with
    replyWindow := newOr presence 1 (clampNat 100 4000 o.replyWindow.toNat) q.replyWindow
    asymmetry := newOr presence 2 (clampMag 100000 o.asymmetry.toInt) q.asymmetry
    baseError := newOr presence 3 (clampNat 0 100000 o.baseError.toNat) q.baseError
    delayCeiling := newOr presence 4 (clampNat 100 1000000 o.delayCeiling.toNat) q.delayCeiling
    budgetReload := newOr presence 5 (clampNat 1 255 o.budgetReload.toNat) q.budgetReload
    budget := newOr presence 5 (clampNat 1 255 o.budgetReload.toNat) q.budget }

/-- The marked reloads of a counter written. -/
def Counter.amend (c : Counter) (presence bit : Nat) (main prescale : Byte) : Counter :=
  { c with
    mainReload := newOr presence bit (clampNat 1 127 main.toNat) c.mainReload
    prescaleReload := newOr presence (bit + 1) prescale.toNat c.prescaleReload }

/-- Some drift parameter is marked: the fields from min members to P_c, presence bits 11 to 19 (R157, R176). -/
def carriesDrift (presence : Nat) : Bool := [11, 12, 13, 14, 15, 16, 17, 18, 19].any presence.testBit

/-- The marked drift parameters written; a lean value above its excess value is set equal to it (R149). DESIGN CHOICE, unsafe (log entry 28): the operand bytes of the lean rate and the excess rate are read unsigned, so 0xFFFFFFFF clamps to 1,600,000. -/
def Drift.amend (d : Drift) (presence : Nat) (o : RackOperands) : Drift :=
  let excessRate := newOr presence 13 (clampNat 16 1600000 o.excessRate.toNat) d.excessRate
  let excessOffset := newOr presence 15 (clampNat 100 100000000 o.excessOffset.toNat) d.excessOffset
  { d with
    minMembers := newOr presence 11 (clampNat 1 40 o.minMembers.toNat) d.minMembers
    leanRate := min (newOr presence 12 (clampNat 16 1600000 o.leanRate.toNat) d.leanRate) excessRate
    excessRate := excessRate
    leanOffset := min (newOr presence 14 (clampNat 100 100000000 o.leanOffset.toNat) d.leanOffset) excessOffset
    excessOffset := excessOffset
    persistence := d.persistence.amend presence 16 o.persistMain o.persistPrescale
    calm := d.calm.amend presence 18 o.calmMain o.calmPrescale }

/-- The marked trust, dating and port parameters of a rack written (R53, R75, R124). -/
def Rack.amend (r : Rack) (presence : Nat) (o : RackOperands) : Rack :=
  { r with
    port := r.port.amend presence o
    trustOffset := newOr presence 6 (clampNat 100 1000000 o.trustOffset.toNat) r.trustOffset
    faultLimit := newOr presence 7 (clampNat 1 15 o.faultLimit.toNat) r.faultLimit
    dateCeiling := newOr presence 8 (clampNat 100 1000000000 o.dateCeiling.toNat) r.dateCeiling
    rackPenalty := newOr presence 9 (clampNat 0 100000000 o.rackPenalty.toNat) r.rackPenalty
    driftPolicy := newOr presence 10 ((policyOf o.driftPolicy).getD r.driftPolicy) r.driftPolicy }

/-- A marked enumerated field of AMEND-RACK names no value of its table: enabled, or the drift policy (R161, R176). -/
def rackOutOfRange (presence : Nat) (o : RackOperands) : Bool :=
  (presence.testBit 0 && (bitOf o.enabled).isNone) || (presence.testBit 10 && (policyOf o.driftPolicy).isNone)

/-- The drift parameters of an AMEND-RACK: where it carries any, standing expiries are taken first and both counters are reloaded (R157). -/
def State.amendDrift (s : State) (p : RackId) (presence : Nat) (o : RackOperands) : State :=
  if carriesDrift presence then
    let s := s.takeExpiries p
    s.setDrift p ((s.rack p).drift.amend presence o).reloadCounters
  else s

/-- The enabled field of an AMEND-RACK (R76). -/
def State.amendEnabled (s : State) (p : RackId) (enabled : Option Bool) : State :=
  match enabled with
  | some true => s.enablePort p
  | some false => s.disablePort p
  | none => s

/-- AMEND-RACK: every field it carries is written at its one instant, or none (R161, 11.2). -/
def State.amendRack (s : State) (rack : Byte) (presence : BitVec 24) (o : RackOperands) : State :=
  s.request 0 fun s =>
    match rackOf rack with
    | none => s.refuse .range 0
    | some p =>
      if rackOutOfRange presence.toNat o then s.refuse .range 0
      else
        let t := (s.setRack p ((s.rack p).amend presence.toNat o)).amendDrift p presence.toNat o
        (t.amendEnabled p (marked presence.toNat 0 o.enabled >>= bitOf)).answer .done []

/-! ## Parameters of the row (R12, R13, R136) -/

/-- The marked row parameters other than H written, with the sanity limit not below the step limit (R12). -/
def Row.amendLimits (r : Row) (presence : Nat) (o : RowOperands) : Row :=
  let stepLimit := newOr presence 0 (clampNat 1000 1000000 o.stepLimit.toNat) r.stepLimit
  { r with
    stepLimit := stepLimit
    sanityLimit := max (newOr presence 1 (clampNat 1000 100000000 o.sanityLimit.toNat) r.sanityLimit) stepLimit
    urLimit := newOr presence 2 (clampNat 100 100000000 o.urLimit.toNat) r.urLimit
    gain := newOr presence 3 (clampNat 2 10 o.gain.toNat) r.gain }

/-- A new H; in Holdover and Free, t_h and Ur_entry are first rebased to this instant (R13). -/
def Row.amendWander (r : Row) (presence : Nat) (o : RowOperands) : Row :=
  if presence.testBit 4 then
    let wander := clampNat 0 160000 o.wander.toNat
    match r.state with
    | .holdover | .free => { r with entryUr := r.currentUr, entryTime := r.whole, wander := wander }
    | .warming | .acquiring | .locked => { r with wander := wander }
  else r

/-- The row state that a new Ur limit leaves (R13). -/
def Row.limitState (r : Row) (presence : Nat) : RowState :=
  if presence.testBit 2 ∧ r.urLimit < r.currentUr then
    match r.state with
    | .locked => .acquiring
    | .holdover => .free
    | .warming => .warming
    | .acquiring => .acquiring
    | .free => .free
  else r.state

/-- The marked fence parameters written; a new wait maximum acts at once (R136). -/
def State.amendFences (s : State) (presence : Nat) (o : RowOperands) : State :=
  let t : State := { s with fences := { s.fences with
    horizon := newOr presence 5 (clampNat 1 60 o.horizon.toNat) s.fences.horizon
    waitMax := newOr presence 6 (clampNat 1 300 o.waitMax.toNat) s.fences.waitMax } }
  if presence.testBit 6 then t.sweepFences else t

/-- The effect of AMEND-ROW (R12, R13, R136). -/
def State.amendRow (s : State) (presence : Nat) (o : RowOperands) : State :=
  let row := (s.row.amendWander presence o).amendLimits presence o
  (({ s with row := row } : State).enterRowState (row.limitState presence)).amendFences presence o

/-! ## Result bytes (R174, R175) -/

/-- Follower states (R175). -/
def FollowerState.code : FollowerState → Byte
  | .vacant => 0x00
  | .settling => 0x01
  | .trusted => 0x02
  | .stale => 0x03
  | .muted => 0x04
  | .retiring => 0x05

/-- Fault kinds (R175). -/
def FaultKind.code : FaultKind → Byte
  | .check => 0x01
  | .stray => 0x02
  | .overrun => 0x03
  | .causality => 0x04
  | .delay => 0x05
  | .timeout => 0x06
  | .echo => 0x07

/-- Ends of an order (R175). -/
def OrderEnd.code : OrderEnd → Byte
  | .done => 0x01
  | .refused => 0x02
  | .lost => 0x03
  | .cancelled => 0x04

/-- A last order outcome: the outcome, then the order kind (R175). -/
def outcomeBytes (o : Option (OrderEnd × OrderKind)) : List Byte :=
  o.elim [0x00, 0x00] fun x => [x.1.code, x.2.code]

/-- An estimate slot (R175). -/
def Estimate.bytes (e : Estimate) : List Byte :=
  boolByte e.valid :: (beInt 6 e.theta ++ beInt 4 e.rate ++ beBytes 4 e.delay ++ beBytes 4 e.uPub ++ beBytes 8 e.t4)

/-- Notify flags in the layout of their operand (R175). -/
def NotifyFlags.byte (n : NotifyFlags) : Byte :=
  (if n.onTrusted then 0x01 else 0x00) ||| (if n.onStale then 0x02 else 0x00) ||| (if n.onOrder then 0x04 else 0x00)

/-- The result bytes of READ-FOLLOWER (R73, R175). -/
def Follower.bytes (f : Follower) : List Byte :=
  [f.state.code, BitVec.ofNat 8 f.port.val, BitVec.ofNat 8 f.slot.val, (match f.kind with | .server => 0x00 | .storage => (0x01 : Byte))] ++
  beBytes 1 f.periodClass ++ beBytes 1 f.settleReload ++ beBytes 1 f.settleCount ++ beBytes 2 f.wander ++ beBytes 1 f.shift ++
  beBytes 4 f.maxAge ++ f.slotA.bytes ++ f.slotB.bytes ++
  [(match f.selector with | .a => 0x00 | .b => (0x01 : Byte)), boolByte f.rateBase] ++ beBytes 8 f.freshSince ++ beBytes 8 f.nextDue ++
  beBytes 1 f.consecutiveFaults ++ [f.lastFault.elim 0x00 FaultKind.code] ++ beBytes 2 f.goodCount.toNat ++
  beBytes 2 f.faultedCount.toNat ++ [boolByte f.holding] ++
  (f.pendingOrder.elim [0x00, 0x00] fun o => o.kind.code :: beBytes 1 o.attempts) ++ outcomeBytes f.lastOutcome ++
  [f.notify.byte, boolByte f.noticed]

/-- The fence parameters and row parameters in the layout of AMEND-ROW (R174, R175). -/
def State.rowParameterBytes (s : State) : List Byte :=
  beBytes 4 s.row.stepLimit ++ beBytes 4 s.row.sanityLimit ++ beBytes 4 s.row.urLimit ++ beBytes 1 s.row.gain ++
  beBytes 4 s.row.wander ++ beBytes 1 s.fences.horizon ++ beBytes 2 s.fences.waitMax

/-- The result bytes of READ-ROW (R33, R175). -/
def State.rowBytes (s : State) : List Byte :=
  beBytes 8 s.now ++ [s.row.state.code, boolByte s.row.rowSet] ++ beInt 4 s.row.y ++ beInt 4 s.row.s ++
  beBytes 4 s.row.currentUr ++ beBytes 8 s.row.lastStep ++ beBytes 8 s.row.entryTime ++ s.rowParameterBytes

/-- Reference states (R175). -/
def RefState.code : RefState → Byte
  | .absent => 0x00
  | .qualifying => 0x01
  | .usable => 0x02
  | .faulted => 0x03

/-- The roles of a reference: selected 0x01, backup 0x02, in use 0x04 (R175). -/
def Selector.roles (x : Selector) (r : Reference) : Byte :=
  (if x.selected = r then 0x01 else 0x00) ||| (if x.backup = some r then 0x02 else 0x00) ||| (if x.inUse = some r then 0x04 else 0x00)

/-- The result bytes of READ-REFERENCE; the fixed declared u of a link reference reads 0 (R49, R175). -/
def State.referenceBytes (s : State) (r : Reference) : List Byte :=
  let v := s.ref r
  v.state.code :: (beBytes 1 v.qualifyCount ++ beBytes 8 v.lastLabel ++ beBytes 8 v.lastArrival ++ beBytes 4 v.lastU ++
    beBytes 1 v.rejects ++ beInt 9 v.lastError ++ beBytes 4 v.compensation ++ beBytes 4 v.ceiling ++
    beBytes 4 (if r = .pulse then v.fixedU else 0) ++ [s.selector.roles r])

/-- Port states (R175). -/
def PortState.code : PortState → Byte
  | .disabled => 0x00
  | .running => 0x01
  | .halted => 0x02

/-- Activities (R175). -/
def Activity.code : Activity → Byte
  | .idle => 0x00
  | .announcing => 0x01
  | .exchange => 0x02
  | .quiet => 0x03

/-- Phases of an exchange (R175). -/
def Phase.code : Phase → Byte
  | .probe => 0x01
  | .awaiting => 0x02
  | .verdict => 0x03

/-- The port fields of READ-RACK (R97, R175). -/
def Port.fieldBytes (q : Port) : List Byte :=
  [q.state.code, q.activity.code, q.sequence, boolByte q.pendingAnnounce] ++
  (q.exchange.elim [0x00, 0x00] fun x => [x.phase.code, BitVec.ofNat 8 x.follower.val]) ++
  beBytes 1 q.budget ++ [q.unsolicited, q.degraded]

/-- The 51 bytes of rack fields in the layout of AMEND-RACK; enabled is 0x00 while the port is Disabled (R174, R175). -/
def Rack.parameterBytes (r : Rack) : List Byte :=
  let q := r.port
  let d := r.drift
  [boolByte (q.state != .disabled)] ++ beBytes 2 q.replyWindow ++ beInt 4 q.asymmetry ++ beBytes 4 q.baseError ++
  beBytes 4 q.delayCeiling ++ beBytes 1 q.budgetReload ++ beBytes 4 r.trustOffset ++ beBytes 1 r.faultLimit ++
  beBytes 4 r.dateCeiling ++ beBytes 4 r.rackPenalty ++ [(match r.driftPolicy with | .widen => 0x00 | .refuse => (0x01 : Byte))] ++
  beBytes 1 d.minMembers ++ beBytes 4 d.leanRate ++ beBytes 4 d.excessRate ++ beBytes 4 d.leanOffset ++ beBytes 4 d.excessOffset ++
  beBytes 1 d.persistence.mainReload ++ beBytes 1 d.persistence.prescaleReload ++ beBytes 1 d.calm.mainReload ++
  beBytes 1 d.calm.prescaleReload

/-- Drift states (R175). -/
def DriftState.code : DriftState → Byte
  | .unknown => 0x00
  | .calm => 0x01
  | .leaning => 0x02
  | .excess => 0x03

/-- Warning levels (R175). -/
def Warning.code : Warning → Byte
  | .none => 0x00
  | .watch => 0x01
  | .drift => 0x02

/-- The drift fields of READ-RACK (R158, R175). -/
def Drift.fieldBytes (d : Drift) : List Byte :=
  beBytes 1 d.members ++ beInt 4 d.meanRate ++ beBytes 6 d.widest ++ [d.state.code] ++ beBytes 1 d.persistence.main ++
  beBytes 1 d.persistence.prescale ++ beBytes 1 d.calm.main ++ beBytes 1 d.calm.prescale ++
  [d.warning.code, boolByte d.acknowledged]

/-- The result bytes of READ-RACK (R97, R158, R175). -/
def Rack.bytes (r : Rack) : List Byte := r.port.fieldBytes ++ r.parameterBytes ++ r.drift.fieldBytes

/-- Fence states (R174). -/
def FenceState.code : FenceState → Byte
  | .waiting => 0x00
  | .cleared => 0x01
  | .voidedRestart => 0x02
  | .voidedExpired => 0x03

/-- The 20 bytes of a fence in READ-FENCE (R174). -/
def Fence.bytes (f : Fence) : List Byte :=
  [BitVec.ofNat 8 f.follower.val, f.tag] ++ beBytes 8 f.bound ++ [f.state.code] ++ beBytes 8 f.lastChange ++ [0x00]

/-- The fence count and the fences-dropped count of READ-FENCE (R147, R174). -/
def State.fenceCountBytes (s : State) : List Byte :=
  beBytes 1 s.fences.list.length ++ beBytes 2 s.fences.dropped.toNat

end Sys2Proof.Machine
end

