-- ==== Sys2Proof/Machine/FollowerRequests.lean ====
section
/-! DEFINITION. The meanings of the requests on follower records: ENROL to ORDER (Chapters 4 and 7). -/

namespace Sys2Proof.Machine

/-- ENROL (R54, R55): RANGE, then TAKEN, then FULL, otherwise the lowest Vacant index. -/
def execEnrol (port slot : Byte) (fields : FollowerOperands) (s : State) : Result :=
  .next (s.request 1 fun s =>
    match rackOf port, slotOf slot, kindOf fields.kind with
    | some p, some k, some kind =>
      if (s.findFollower fun f => f.holds port slot).isSome then s.refuse .taken 1
      else
        match s.findFollower fun f => f.state == .vacant with
        | none => s.refuse .full 1
        | some i => (s.setFollower i (enrolled p k kind fields s.now)).answer .done [BitVec.ofNat 8 i.val]
    | _, _, _ => s.refuse .range 1)

/-- AMEND-FOLLOWER (R56): RANGE for a given kind that names none, then STATE. -/
def execAmendFollower (index presence : Byte) (fields : FollowerOperands) (s : State) : Result :=
  .next (s.request 0 fun s =>
    let i := followerOf index
    let f := s.follower i
    if presence.toNat.testBit 0 && (kindOf fields.kind).isNone then s.refuse .range 0
    else if f.state = .vacant ∨ f.state = .retiring then s.refuse .state 0
    else (s.setFollower i (f.amend presence.toNat fields)).answer .done [])

/-- MUTE (R57). -/
def execMute (index : Byte) (s : State) : Result :=
  .next (s.request 0 fun s =>
    let i := followerOf index
    let f := s.follower i
    if f.state = .vacant ∨ f.state = .retiring then s.refuse .state 0
    else (s.setFollower i { f with state := .muted }).answer .done [])

/-- UNMUTE (R59). -/
def execUnmute (index : Byte) (s : State) : Result :=
  .next (s.request 0 fun s =>
    let i := followerOf index
    let f := s.follower i
    if f.state ≠ .muted then s.refuse .state 0
    else (s.setFollower i { (f.epoch s.now).resettle with consecutiveFaults := 0, nextDue := s.now }).answer .done [])

/-- An exchange with the follower is in flight on its port (R60). -/
def State.inFlight (s : State) (i : FollowerId) : Bool :=
  (s.port (s.follower i).port).exchange.any fun x => x.follower == i

/-- RETIRE (R60, R61). -/
def execRetire (index : Byte) (s : State) : Result :=
  .next (s.request 0 fun s =>
    let i := followerOf index
    let f := s.follower i
    match f.state with
    | .vacant => s.refuse .state 0
    | .retiring => s.answer .pending []
    | .settling | .trusted | .stale | .muted =>
      if s.inFlight i then (s.setFollower i { f with state := .retiring }).answer .pending []
      else (s.vacate i).answer .done [])

/-- READ-FOLLOWER (R73, R175). -/
def execReadFollower (index : Byte) (s : State) : Result :=
  .next (s.request 99 fun s => s.answer .done (s.follower (followerOf index)).bytes)

/-- FIND-FOLLOWER (R71). -/
def execFindFollower (port slot : Byte) (s : State) : Result :=
  .next (s.request 2 fun s =>
    if (rackOf port).isNone || (slotOf slot).isNone then s.refuse .range 2
    else
      match s.findFollower fun f => f.holds port slot with
      | some i => s.answer .done [BitVec.ofNat 8 i.val, (s.follower i).state.code]
      | none => s.refuse .notFound 2)

/-- FIND-NOTICED (R72). -/
def execFindNoticed (s : State) : Result :=
  .next (s.request 4 fun s =>
    match s.findFollower fun f => f.noticed with
    | some i =>
      let f := s.follower i
      (s.setFollower i { f with noticed := false }).answer .done ([BitVec.ofNat 8 i.val, f.state.code] ++ outcomeBytes f.lastOutcome)
    | none => s.refuse .notFound 4)

/-- ORDER (R114): RANGE, STATE, BUSY, STATE. -/
def execOrder (index kind : Byte) (s : State) : Result :=
  .next (s.request 0 fun s =>
    let i := followerOf index
    let f := s.follower i
    match OrderKind.ofCode kind with
    | none => s.refuse .range 0
    | some k =>
      if f.state = .vacant ∨ f.state = .muted ∨ f.state = .retiring then s.refuse .state 0
      else if f.pendingOrder.isSome then s.refuse .busy 0
      else if k = .step ∧ (f.published.valid = false ∨ f.holding = true) then s.refuse .state 0
      else (s.setFollower i { f with pendingOrder := some ⟨k, 0⟩ }).answer .done [])

end Sys2Proof.Machine
end

