-- ==== Sys2Proof/Machine/Flags.lean ====
section
/-! DEFINITION. What the part drives from its flags and fields at each instant: the flag word of READ-EVENTS, the attention line MATN, the warning lines WL0 to WL3, the bus driver enables RKE0 to RKE11, the byte on MDO (Chapter 11, R91). Each is a function of the state, because the manual has each line follow its condition from the instant the condition changes. -/

namespace Sys2Proof.Machine

/-- The nine event flags, bit 0 first, in the order of R163; a map counts as set while any of its rack bits is set (R165). -/
def Events.flagBits (e : Events) : List Bool :=
  [e.rowStateChanged, e.rowStepped, e.referenceSwitched, e.referenceFaulted, e.rackWarning != 0,
   e.portDegraded != 0, e.portHalted != 0, e.followerNotice, e.fenceDrop]

/-- The flags as the two bytes of READ-EVENTS hold them (R174). -/
def Events.word (e : Events) : BitVec 9 :=
  (BitVec.ofBoolListLE e.flagBits).setWidth 9

/-- MATN is asserted (low) while a flag of an unmasked event is set (R165). -/
def State.attention (s : State) : Bool := s.link.events.word &&& ~~~s.link.mask != 0

/-- A rack's warning stands unacknowledged at Watch or Drift (R167). -/
def Drift.unacknowledged (d : Drift) : Bool := d.warning != .none && !d.acknowledged

/-- The condition of a warning line's function (R167). -/
def State.lineAsserted (s : State) (l : Line) : Bool :=
  match l.function with
  | .level => l.level
  | .anyWarning => allRacks.any fun p => (s.rack p).drift.unacknowledged
  | .anyDrift => allRacks.any fun p => (s.rack p).drift.warning == .drift && !(s.rack p).drift.acknowledged
  | .oneRack => (s.rack l.rack).drift.unacknowledged
  | .notLocked => s.row.state != .locked
  | .holdover => s.row.state == .holdover || s.row.state == .free
  | .secondPulse => s.pulseWindow
  | .fenceBacklog => decide (48 ≤ s.fences.list.length)
  | .portHalted => allRacks.any fun p => (s.port p).state == .halted

/-- The electrical level of WL0 to WL3: high while asserted under active high or inactive under active low (R166). -/
def State.lineHigh (s : State) (w : Fin 4) : Bool :=
  s.lineAsserted s.lines[w] == s.lines[w].activeHigh

/-- RKE0 to RKE11: the driver enable is asserted while a frame is being transmitted (R91, R93). -/
def State.driverEnable (s : State) (p : RackId) : Bool := (s.port p).transmitting.isSome

/-- MDO: the byte shifted out while the next byte of the frame is clocked: zero while the code and operand bytes arrive, then the response, then zero bytes (R159); none outside a frame. -/
def State.mdo (s : State) : Option Byte :=
  match s.link.frame with
  | .awaitRise | .closed => none
  | .receiving _ => some 0x00
  | .taken shifted => some (s.link.response.getD shifted 0x00)

end Sys2Proof.Machine
end

