-- ==== Sys2Proof/Machine/LinkRequests.lean ====
section
/-! DEFINITION. The meanings of the Management Link's and the Warning Line Driver's own requests: READ-EVENTS, SET-EVENT-MASK, SET-LINE, IDENTIFY, an unknown code and a frame cut short (Chapter 11). -/

namespace Sys2Proof.Machine

/-- The result bytes of READ-EVENTS: flags, the maps rack warning, port degraded and port halted, mask (R164, R174). DESIGN CHOICE, unsafe (log entry 29): the unused high bits of the two-byte words, 9 to 15 of flags and mask and 12 to 15 of the maps, read 0. DEDUCED, unsafe (log entry 32): R174 does not order the three maps, and they are sent in the order of the table of R163. -/
def Link.eventBytes (l : Link) : List Byte :=
  beBytes 2 l.events.word.toNat ++ beBytes 2 l.events.rackWarning.toNat ++ beBytes 2 l.events.portDegraded.toNat ++
  beBytes 2 l.events.portHalted.toNat ++ beBytes 2 l.mask.toNat

/-- READ-EVENTS (R164): every flag and rack bit it returns set is cleared at the same instant. -/
def execReadEvents (s : State) : Result :=
  .next (s.request 10 fun s =>
    ({ s with link := { s.link with events := Events.none } } : State).answer .done s.link.eventBytes)

/-- SET-EVENT-MASK (R165); bits above the nine events are ignored (R176). -/
def execSetEventMask (mask : BitVec 16) (s : State) : Result :=
  .next (s.request 0 fun s => ({ s with link := { s.link with mask := mask.setWidth 9 } } : State).answer .done [])

/-- SET-LINE (R166). -/
def execSetLine (line function polarity rack level : Byte) (s : State) : Result :=
  .next (s.request 0 fun s =>
    match lineOf line, functionOf function, bitOf polarity, rackOf rack, bitOf level with
    | some w, some f, some low, some p, some asserted =>
      ({ s with lines := s.lines.set w { function := f, activeHigh := !low, rack := p, level := asserted } } : State).answer .done []
    | _, _, _, _, _ => s.refuse .range 0)

/-- IDENTIFY (R168, R174): answered at every instant, the start-up interval included. -/
def execIdentify (s : State) : Result := .next (s.answer .done [0x5A, 0x12, 0x56, 0x01])

/-- A code that names no request is answered UNKNOWN, in the start-up interval too (R159, R160). -/
def execUnknownRequest (_code : Byte) (s : State) : Result := .next (s.answer .unknown [])

/-- A frame cut by MCS before its last operand byte: no effect, and no response on MDO (R159). -/
def execManagementFrameAbort (_clocked : List Byte) (s : State) : Result :=
  .next s.endFrame

end Sys2Proof.Machine
end

