-- ==== Sys2Proof/Machine/MarkEvents.lean ====
section
/-! DEFINITION. The meanings of the reference input events: MARK_DELIMITER_ARRIVAL, LINK_MARK_RECEPTION_END, PULSE_EDGE, MISSING_MARK_EXPIRY. -/

namespace Sys2Proof.Machine

/-- MARK_DELIMITER_ARRIVAL (R10): the stamp is the whole part of row time. While a frame is being received on the input, its bytes are that frame's and open no other (log entry 19). -/
def execMarkDelimiterArrival (input : LinkInput) (s : State) : Result :=
  let r := linkReference input
  .next (match (s.ref r).arriving with
    | none => s.setRef r { s.ref r with arriving := some s.now }
    | some _ => s)

/-- A link mark whose reception has ended, by its arrival stamp and what was read from it (R37, R38, R173). -/
def State.linkMark (s : State) (r : Reference) (arrival : Nat) (read : Option MarkFields) : State :=
  match read with
  | none => s.inconsistentMark r
  | some m =>
    let mark : Mark := ⟨m.label, m.declaredU, arrival⟩
    s.judgeMark r mark ((s.ref r).linkConsistent mark)

/-- LINK_MARK_RECEPTION_END (R37, R38, R41, R43). -/
def execLinkMarkReceptionEnd (input : LinkInput) (received : List Byte) (s : State) : Result :=
  let r := linkReference input
  .next (match (s.ref r).arriving with
    | none => s
    | some arrival => (s.setRef r { s.ref r with arriving := none }).linkMark r arrival (parseMark received))

/-- The Pulse mark of an edge: its label is a free value where the rounding leaves the range of a label (R39, log entry 7). -/
def State.pulseMark (s : State) : State :=
  let v := s.ref .pulse
  let mark : Mark := ⟨s.heldInstant (pulseLabelExact s.now v.compensation).toNat, v.fixedU, s.now⟩
  s.choose.judgeMark .pulse mark (v.pulseConsistent mark)

/-- PULSE_EDGE (R39, R40, R41, R43): discarded while the row-set flag is false. -/
def execPulseEdge (s : State) : Result :=
  .next (if s.row.rowSet then s.pulseMark else s)

/-- A missing-mark interval has run out (R42). -/
def State.missMark (s : State) (r : Reference) : State :=
  let v := s.ref r
  match v.state with
  | .qualifying => s.setRef r { v with state := .absent, qualifyCount := 0 }
  | .usable => s.faultReference r
  | .absent | .faulted => s

/-- MISSING_MARK_EXPIRY (R42, R45). -/
def execMissingMarkExpiry (ref : Reference) (s : State) : Result :=
  .next (if s.missingDue ref then s.missMark ref else s)

end Sys2Proof.Machine
end

