-- ==== Sys2Proof/Machine/PortEvents.lean ====
section
/-! DEFINITION. The meanings of the rack bus events: ANNOUNCE_START to TRANSMIT_GUARD_TRIP. An event that the manual gives a port in one activity or phase changes nothing in another (log entry 2). -/

namespace Sys2Proof.Machine

/-- ANNOUNCE_START (R84, R9): the row time carried is the frame's own stamp. -/
def execAnnounceStart (port : RackId) (s : State) : Result :=
  .next (if s.announceDue port then
      s.setPort port { s.port port with
        activity := .announcing, pendingAnnounce := false
        transmitting := s.transmission (announceFrame s.now s.row.state s.row.lastStep) }
    else s)

/-- ANNOUNCE_END (R84). -/
def execAnnounceEnd (port : RackId) (s : State) : Result :=
  .next (if (s.port port).activity = .announcing then
      s.setPort port { s.port port with activity := .idle, transmitting := none }
    else s)

/-- The next due of the chosen follower, a free value where the exact sum is no instant (R80, log entry 7). -/
def State.nextDueAfter (s : State) (f : Follower) (d : DriftState) : Nat :=
  s.heldInstant (advancedDue f.nextDue (effectivePeriod f.periodClass d) s.now)

/-- The advice of a Probe to a follower: none where it is invalid (R81). -/
def Follower.advice (f : Follower) : Option (Int × Int) :=
  if f.published.valid && !f.holding then some (f.published.theta, f.published.rate) else none

/-- An exchange with follower `i` begins (R79, R80, R81, R115). -/
def State.startExchange (s : State) (p : RackId) (i : FollowerId) : State :=
  let f := s.follower i
  let q := s.port p
  let sequence := q.sequence + 1
  let order := f.pendingOrder.map (·.kind)
  let slot : Byte := BitVec.ofNat 8 f.slot.val
  let t := s.setFollower i { f with nextDue := s.nextDueAfter f (s.rack p).drift.state }
  t.choose.setPort p { q with
    activity := .exchange
    sequence := sequence
    exchange := some { follower := i, sequence := sequence, t1 := s.now, phase := .probe, order := order,
                       windowEnd := none, reply := none, notices := [], carried := [] }
    transmitting := s.transmission (probeFrame slot sequence f.advice order) }

/-- EXCHANGE_START (R79, R80, R81). -/
def execExchangeStart (port : RackId) (s : State) : Result :=
  .next (if s.exchangeDue port then
      match s.sweepChoice port with
      | some i => s.startExchange port i
      | none => s
    else s)

/-- PROBE_END (R81, R85): the reply window in force now runs from this instant. -/
def execProbeEnd (port : RackId) (s : State) : Result :=
  let q := s.port port
  .next (match q.exchange with
    | some x =>
      if x.phase = .probe then
        s.setPort port { q with
          exchange := some { x with phase := .awaiting, windowEnd := some (s.elapsed + q.window) }
          transmitting := none }
      else s
    | none => s)

/-- ECHO_MISMATCH (R84, R91, R92). -/
def execEchoMismatch (port : RackId) (s : State) : Result :=
  let q := s.port port
  .next (match q.activity, q.exchange with
    | .announcing, _ => (s.setPort port (q.rest .idle)).decrementBudget port
    | .exchange, some x =>
      match x.phase with
      | .probe => s.faultExchange port .echo true
      | .verdict => s.faultExchange port .echo false
      | .awaiting => s
    | _, _ => s)

/-- REPLY_WINDOW_EXPIRY (R85, R90). -/
def execReplyWindowExpiry (port : RackId) (s : State) : Result :=
  .next (if s.replyWindowDue port then s.faultExchange port .timeout true else s)

/-- REPLY_ARRIVAL (R85, R99): the stamp t4, with the row state and the Ur of this instant. -/
def execReplyArrival (port : RackId) (s : State) : Result :=
  let q := s.port port
  .next (match q.exchange with
    | some x =>
      if x.phase = .awaiting ∧ x.reply = none then
        s.setPort port { q with
          exchange := some { x with windowEnd := none, reply := some ⟨s.now, s.row.state, s.row.currentUr⟩ } }
      else s
    | none => s)

/-- REPLY_RECEPTION_END (R87, R88). -/
def execReplyReceptionEnd (port : RackId) (received : List Byte) (s : State) : Result :=
  .next (match (s.port port).exchange with
    | some x =>
      match x.phase, x.reply with
      | .awaiting, some c => s.receiveReply port x c received
      | _, _ => s
    | none => s)

/-- VERDICT_END (R89, R146). -/
def execVerdictEnd (port : RackId) (s : State) : Result :=
  .next (match (s.port port).exchange with
    | some x => if x.phase = .verdict then (s.removeCarried x.carried).endExchange port .idle else s
    | none => s)

/-- UNSOLICITED_FRAME (R94). -/
def execUnsolicitedFrame (port : RackId) (s : State) : Result :=
  .next (if (s.port port).idleRunning then
      (s.setPort port { s.port port with unsolicited := (s.port port).unsolicited + 1 }).decrementBudget port
    else s)

/-- QUIET_FRAME (R96): received to its end and discarded, not counted. -/
def execQuietFrame (_port : RackId) (s : State) : Result := .next s

/-- QUIET_WINDOW_END (R96). -/
def execQuietWindowEnd (port : RackId) (s : State) : Result :=
  .next (if s.quietDue port then s.setPort port { s.port port with activity := .idle, quietEnd := none } else s)

/-- TRANSMIT_GUARD_TRIP (R77, R93). -/
def execTransmitGuardTrip (port : RackId) (s : State) : Result :=
  .next (if s.guardDue port then (s.leaveRunning port .halted).raiseRack port .halted else s)

end Sys2Proof.Machine
end

