-- ==== Sys2Proof/Machine/RackRequests.lean ====
section
/-! DEFINITION. The meanings of the requests on rack records: READ-RACK, the three rows of AMEND-RACK, ACK-WARNING (Chapters 5, 8 and 10). -/

namespace Sys2Proof.Machine

/-- READ-RACK (R97, R158, R175). -/
def execReadRack (rack : Byte) (s : State) : Result :=
  .next (s.request 78 fun s =>
    match rackOf rack with
    | some p => s.answer .done (s.rack p).bytes
    | none => s.refuse .range 78)

/-- PORT_ENABLE (R76): AMEND-RACK with enabled marked and 0x01; the other marked fields are written by the same request. -/
def execPortEnable (rack : Byte) (presence : BitVec 24) (fields : RackOperands) (s : State) : Result :=
  .next (s.amendRack rack (presence ||| 1#24) { fields with enabled := 0x01 })

/-- PORT_DISABLE (R76, R77): AMEND-RACK with enabled marked and 0x00; the other marked fields are written by the same request. -/
def execPortDisable (rack : Byte) (presence : BitVec 24) (fields : RackOperands) (s : State) : Result :=
  .next (s.amendRack rack (presence ||| 1#24) { fields with enabled := 0x00 })

/-- AMEND_RACK_PARAMETERS (R53, R75, R124, R149, R157). -/
def execAmendRackParameters (rack : Byte) (presence : BitVec 24) (fields : RackOperands) (s : State) : Result :=
  .next (s.amendRack rack presence fields)

/-- ACK-WARNING (R155). -/
def execAckWarning (rack : Byte) (s : State) : Result :=
  .next (s.request 0 fun s =>
    match rackOf rack with
    | none => s.refuse .range 0
    | some p =>
      let d := (s.rack p).drift
      if d.warning = .none then s.refuse .state 0
      else (s.setDrift p { d with acknowledged := true }).answer .done [])

end Sys2Proof.Machine
end

