-- ==== Sys2Proof/Machine/RowRequests.lean ====
section
/-! DEFINITION. The meanings of the requests on the row, the references and the fences: READ-ROW to READ-FENCE (Chapters 2, 3 and 9). -/

namespace Sys2Proof.Machine

/-- READ-ROW (R33, R136, R175). -/
def execReadRow (s : State) : Result := .next (s.request 58 fun s => s.answer .done s.rowBytes)

/-- AMEND-ROW (R12, R13, R136). -/
def execAmendRow (presence : Byte) (fields : RowOperands) (s : State) : Result :=
  .next (s.request 0 fun s => (s.amendRow presence.toNat fields).answer .done [])

/-- RESTART-ROW (R30, R31): refused STATE in Warming. -/
def execRestartRow (s : State) : Result :=
  .next (s.request 0 fun s => if s.row.state = .warming then s.refuse .state 0 else s.restartRow.answer .done [])

/-- READ-REFERENCE (R49, R175). -/
def execReadReference (ref : Byte) (s : State) : Result :=
  .next (s.request 45 fun s =>
    match referenceOf ref with
    | some r => s.answer .done (s.referenceBytes r)
    | none => s.refuse .range 45)

/-- The parameters of AMEND-REFERENCE written, clamped; the fixed declared u in the Pulse record only (R36, R176). -/
def RefRecord.amend (v : RefRecord) (pulse : Bool) (compensation ceiling fixedU : BitVec 32) : RefRecord :=
  { v with
    compensation := clampNat 0 1000000 compensation.toNat
    ceiling := clampNat 1 1000000 ceiling.toNat
    fixedU := if pulse then clampNat 1 1000000 fixedU.toNat else v.fixedU }

/-- AMEND-REFERENCE (R36). -/
def execAmendReference (ref : Byte) (compensation ceiling fixedU : BitVec 32) (s : State) : Result :=
  .next (s.request 0 fun s =>
    match referenceOf ref with
    | some r => (s.setRef r ((s.ref r).amend (r == .pulse) compensation ceiling fixedU)).answer .done []
    | none => s.refuse .range 0)

/-- The designations after SELECT of `r`: the old selected reference takes the backup role that `r` held (R47). -/
def Selector.select (x : Selector) (r : Reference) : Selector :=
  { x with selected := r, backup := if x.backup = some r then some x.selected else x.backup }

/-- SELECT (R47). -/
def execSelect (ref : Byte) (s : State) : Result :=
  .next (s.request 0 fun s =>
    match referenceOf ref with
    | none => s.refuse .range 0
    | some r =>
      if s.row.state = .warming ∨ s.usable r = false ∨ (r = .pulse ∧ s.row.rowSet = false) then s.refuse .state 0
      else
        let t : State := { s with selector := s.selector.select r }
        (if s.selector.inUse = some r then t else t.putInUse r).answer .done [])

/-- The backup that SET-BACKUP names: a reference, or none (R174). -/
def backupOf (ref : Byte) : Option (Option Reference) :=
  if ref = 0x04 then some none else (referenceOf ref).map some

/-- A newly named backup is designated where the row is not Warming, nothing is in use and the selected reference is not Usable (R46, R48). -/
def State.designateBackup (s : State) : State := if s.usable s.selector.selected then s else s.designate

/-- SET-BACKUP (R48). -/
def execSetBackup (ref : Byte) (s : State) : Result :=
  .next (s.request 0 fun s =>
    match backupOf ref with
    | none => s.refuse .range 0
    | some b =>
      if b = some s.selector.selected then s.refuse .state 0
      else (({ s with selector := { s.selector with backup := b } } : State).designateBackup).answer .done [])

/-- READ-FENCE (R147, R174). -/
def execReadFence (position : Byte) (s : State) : Result :=
  .next (s.request 23 fun s =>
    if 63 < position.toNat then s.refuse .range 23
    else
      match s.fences.list[position.toNat]? with
      | some f => s.answer .done (s.fenceCountBytes ++ f.bytes)
      | none => s.answer .notFound (s.fenceCountBytes ++ List.replicate 20 0))

end Sys2Proof.Machine
end

