-- ==== Sys2Proof/Machine/Dispatch.lean ====
section
/-! DEFINITION. Which meaning each command has: one arm for each row of spec/opcode_table.json, in its order. -/

namespace Sys2Proof.Machine

def exec (i : Instr) (s : State) : Host.Outcome State Fault Refusal :=
  match i with
  | .powerOnReset => Sys2Proof.Machine.execPowerOnReset s
  | .warmUpEnd => Sys2Proof.Machine.execWarmUpEnd s
  | .startUpIntervalEnd => Sys2Proof.Machine.execStartUpIntervalEnd s
  | .markDelimiterArrival input => Sys2Proof.Machine.execMarkDelimiterArrival input s
  | .linkMarkReceptionEnd input received => Sys2Proof.Machine.execLinkMarkReceptionEnd input received s
  | .pulseEdge => Sys2Proof.Machine.execPulseEdge s
  | .missingMarkExpiry ref => Sys2Proof.Machine.execMissingMarkExpiry ref s
  | .holdoverToFree => Sys2Proof.Machine.execHoldoverToFree s
  | .boundaryEvent => Sys2Proof.Machine.execBoundaryEvent s
  | .persistenceExpiry rack => Sys2Proof.Machine.execPersistenceExpiry rack s
  | .calmExpiry rack => Sys2Proof.Machine.execCalmExpiry rack s
  | .secondPulseWindowStart => Sys2Proof.Machine.execSecondPulseWindowStart s
  | .secondPulseWindowEnd => Sys2Proof.Machine.execSecondPulseWindowEnd s
  | .fenceClearing => Sys2Proof.Machine.execFenceClearing s
  | .fenceExpiry position => Sys2Proof.Machine.execFenceExpiry position s
  | .fenceDrop position => Sys2Proof.Machine.execFenceDrop position s
  | .announceStart port => Sys2Proof.Machine.execAnnounceStart port s
  | .announceEnd port => Sys2Proof.Machine.execAnnounceEnd port s
  | .exchangeStart port => Sys2Proof.Machine.execExchangeStart port s
  | .probeEnd port => Sys2Proof.Machine.execProbeEnd port s
  | .echoMismatch port => Sys2Proof.Machine.execEchoMismatch port s
  | .replyWindowExpiry port => Sys2Proof.Machine.execReplyWindowExpiry port s
  | .replyArrival port => Sys2Proof.Machine.execReplyArrival port s
  | .replyReceptionEnd port received => Sys2Proof.Machine.execReplyReceptionEnd port received s
  | .verdictEnd port => Sys2Proof.Machine.execVerdictEnd port s
  | .unsolicitedFrame port => Sys2Proof.Machine.execUnsolicitedFrame port s
  | .quietFrame port => Sys2Proof.Machine.execQuietFrame port s
  | .quietWindowEnd port => Sys2Proof.Machine.execQuietWindowEnd port s
  | .transmitGuardTrip port => Sys2Proof.Machine.execTransmitGuardTrip port s
  | .enrol port slot fields => Sys2Proof.Machine.execEnrol port slot fields s
  | .amendFollower index presence fields => Sys2Proof.Machine.execAmendFollower index presence fields s
  | .mute index => Sys2Proof.Machine.execMute index s
  | .unmute index => Sys2Proof.Machine.execUnmute index s
  | .retire index => Sys2Proof.Machine.execRetire index s
  | .readFollower index => Sys2Proof.Machine.execReadFollower index s
  | .findFollower port slot => Sys2Proof.Machine.execFindFollower port slot s
  | .findNoticed => Sys2Proof.Machine.execFindNoticed s
  | .order index kind => Sys2Proof.Machine.execOrder index kind s
  | .readRack rack => Sys2Proof.Machine.execReadRack rack s
  | .portEnable rack presence fields => Sys2Proof.Machine.execPortEnable rack presence fields s
  | .portDisable rack presence fields => Sys2Proof.Machine.execPortDisable rack presence fields s
  | .amendRackParameters rack presence fields => Sys2Proof.Machine.execAmendRackParameters rack presence fields s
  | .ackWarning rack => Sys2Proof.Machine.execAckWarning rack s
  | .readRow => Sys2Proof.Machine.execReadRow s
  | .amendRow presence fields => Sys2Proof.Machine.execAmendRow presence fields s
  | .restartRow => Sys2Proof.Machine.execRestartRow s
  | .readReference ref => Sys2Proof.Machine.execReadReference ref s
  | .amendReference ref compensation ceiling fixedU => Sys2Proof.Machine.execAmendReference ref compensation ceiling fixedU s
  | .select ref => Sys2Proof.Machine.execSelect ref s
  | .setBackup ref => Sys2Proof.Machine.execSetBackup ref s
  | .readFence position => Sys2Proof.Machine.execReadFence position s
  | .readEvents => Sys2Proof.Machine.execReadEvents s
  | .setEventMask mask => Sys2Proof.Machine.execSetEventMask mask s
  | .setLine line function polarity rack level => Sys2Proof.Machine.execSetLine line function polarity rack level s
  | .identify => Sys2Proof.Machine.execIdentify s
  | .unknownRequest code => Sys2Proof.Machine.execUnknownRequest code s
  | .managementFrameAbort clocked => Sys2Proof.Machine.execManagementFrameAbort clocked s

end Sys2Proof.Machine
end

