-- ==== Sys2Proof/Machine/LinkFrame.lean ====
section
/-! DEFINITION. The management link by its wires: MCS falls, a byte is clocked, MCS rises (R159). The byte that completes a request runs that request's command. -/

namespace Sys2Proof.Machine

/-- MCS falls: a frame begins where MCS was high (R159). -/
def State.selectLink (s : State) : State :=
  match s.link.frame with
  | .closed => s.setFrame (.receiving [])
  | .awaitRise | .receiving _ | .taken _ => s

/-- A byte of the request: with it the request is taken, or UNKNOWN is answered, or more bytes are awaited (R159). -/
def State.receiveByte (s : State) (clocked : List Byte) : Result :=
  match frameCommand clocked with
  | .managementFrameAbort _ => .next (s.setFrame (.receiving clocked))
  | c => exec c s

/-- A byte is clocked: outside a frame it is nothing, before the request is taken it belongs to the request, afterwards the input is ignored and the response shifts (R159). -/
def State.clockByte (s : State) (mdi : Byte) : Result :=
  match s.link.frame with
  | .awaitRise | .closed => .next s
  | .receiving clocked => s.receiveByte (clocked ++ [mdi])
  | .taken shifted => .next (s.setFrame (.taken (shifted + 1)))

/-- One event of the link's wires (R159). -/
def State.linkEvent (s : State) (e : LinkEvent) : Result :=
  match e with
  | .select => .next s.selectLink
  | .byte mdi => s.clockByte mdi
  | .deselect => .next s.endFrame

end Sys2Proof.Machine
end

