-- ==== Sys2Proof/Machine/Step.lean ====
section
/-! DEFINITION. One step: the command at the front of the queue, or, on an empty queue, an event of the management link's wires, a due event, or the passing of time (log entries 1, 3 and 30). -/

namespace Sys2Proof.Machine

/-- With neither a command nor an event of the link's wires waiting: an event that is due at this instant takes place before time moves; of several, a free value says which; where none is due, one unit of elapsed oscillator time passes. -/
def State.idle (s : State) : Host.Outcome State Fault Refusal :=
  match s.dueEvents with
  | [] => .next s.tick
  | [c] => exec c s
  | c :: d :: rest => exec ((c :: d :: rest).getD (Config.pickDue s.choices % (rest.length + 2)) c) s.choose

/-- One step of the part. -/
def step (s : State) : Host.Outcome State Fault Refusal :=
  match s.pending with
  | c :: rest => exec c { s with pending := rest }
  | [] =>
    match s.wires with
    | e :: rest => ({ s with wires := rest } : State).linkEvent e
    | [] => s.idle

/-- The state with the command that a word spells put at the front of its queue; unchanged where the word spells none. -/
def State.withFetchWord (s : State) (nbits w : Nat) : State :=
  match decodeTableWord nbits w with
  | some c => { s with pending := c :: s.pending }
  | none => s

end Sys2Proof.Machine
end

