-- ==== Sys2Proof/Safety.lean ====
section
/-! DEFINITION. What the manual says always holds of the part's records, block by block. A run is safe when no step of it ends in a fault or a refusal and every state of it satisfies these. -/

namespace Sys2Proof.Machine

/-! ## The Row Clock -/

/-- The ranges of the row record and the row parameters (R11, R12). -/
structure Row.InRange (r : Row) : Prop where
  whole : r.whole ≤ instantMax
  frac : r.frac < unitsPerNs
  top : r.fine ≤ topOfTime
  residue : r.residue < ruScale
  y : -memoryMax ≤ r.y ∧ r.y ≤ memoryMax
  s : -steerMax ≤ r.s ∧ r.s ≤ steerMax
  lastStep : r.lastStep ≤ instantMax
  entryTime : r.entryTime ≤ instantMax
  ur : r.ur ≤ uMax
  entryUr : r.entryUr ≤ uMax
  stepLimit : 1000 ≤ r.stepLimit ∧ r.stepLimit ≤ 1000000
  sanityLimit : r.stepLimit ≤ r.sanityLimit ∧ r.sanityLimit ≤ 100000000
  urLimit : 100 ≤ r.urLimit ∧ r.urLimit ≤ 100000000
  gain : 2 ≤ r.gain ∧ r.gain ≤ 10
  wander : r.wander ≤ 160000

/-- What each row state says of the steer, of Ur and of the entry time (2.3, R16, R21, R24, R26): in Warming s and y are 0 and Ur is U_MAX; a Locked row's Ur does not exceed the Ur limit; in Holdover and Free s is y and t_h is no later than row time. -/
def Row.StateHolds (r : Row) : Prop :=
  match r.state with
  | .warming => r.s = 0 ∧ r.y = 0 ∧ r.ur = uMax ∧ r.rowSet = false
  | .acquiring => True
  | .locked => r.ur ≤ r.urLimit ∧ r.rowSet = true
  | .holdover | .free => r.s = r.y ∧ r.entryTime ≤ r.whole

/-- The row record is sound, and no declared-u ceiling exceeds the range of R36, so that no used mark can write an Ur beyond its range. -/
structure State.RowHolds (s : State) : Prop where
  range : s.row.InRange
  state : s.row.StateHolds
  ceilings : ∀ r, (s.ref r).ceiling ≤ 1000000

/-! ## The Reference Selector -/

/-- The qualify count that a reference state admits (R34). -/
def RefRecord.CountHolds (v : RefRecord) : Prop :=
  match v.state with
  | .absent | .faulted => v.qualifyCount = 0
  | .qualifying => v.qualifyCount ≤ 4
  | .usable => v.qualifyCount = 5

/-- The designations (R35, R45, R46): the backup is never the selected reference; the in-use reference is Usable and has fewer than three rejects; in Warming there is none; and once Warming has ended there is none only where neither the selected nor the backup reference is Usable. -/
structure State.SelectorHolds (s : State) : Prop where
  backup : s.selector.backup ≠ some s.selector.selected
  inUse : ∀ r, s.selector.inUse = some r → s.usable r = true ∧ (s.ref r).rejects < 3
  warming : s.row.state = .warming → s.selector.inUse = none
  designated : s.row.state ≠ .warming → s.selector.inUse = none → s.candidate = none
  counts : ∀ r, (s.ref r).CountHolds

/-! ## The Follower Table -/

/-- What a record's state says of its settle count and its estimate (R52, R65): a Trusted record has settle count 0 and a published estimate, a Settling one a count between 1 and its settle reload; a valid rate base has a valid published slot beneath it (R104). -/
structure Follower.Sound (f : Follower) : Prop where
  reload : 1 ≤ f.settleReload ∧ f.settleReload ≤ 15
  trusted : f.state = .trusted → f.settleCount = 0 ∧ f.published.valid = true
  settling : f.state = .settling → 1 ≤ f.settleCount ∧ f.settleCount ≤ f.settleReload
  rateBase : f.rateBase = true → f.published.valid = true
  attempts : ∀ o, f.pendingOrder = some o → o.attempts ≤ 2
  step : ∀ o, f.pendingOrder = some o → o.kind = .step → f.published.valid = true ∧ f.holding = false
  vacant : f.state = .vacant → f.pendingOrder = none
  faults : f.consecutiveFaults ≤ 15

/-- The ranges of an estimate slot (R3, R5, R100, R105). -/
structure Estimate.InRange (e : Estimate) : Prop where
  theta : -offsetMax ≤ e.theta ∧ e.theta ≤ offsetMax
  rate : -rateMax ≤ e.rate ∧ e.rate ≤ rateMax
  delay : e.delay ≤ 1000000
  uPub : e.uPub ≤ uMax

/-- Every estimate slot is in range, and no delay ceiling exceeds the range of R75, which bounds the delay of a good exchange (R100). -/
structure State.EstimatesHold (s : State) : Prop where
  slots : ∀ i, (s.follower i).slotA.InRange ∧ (s.follower i).slotB.InRange
  ceilings : ∀ p, (s.port p).delayCeiling ≤ 1000000

/-- Every record is sound. -/
def State.FollowersSound (s : State) : Prop := ∀ i, (s.follower i).Sound

/-- No two non-Vacant records share a port and slot (R54). -/
def State.PairsDistinct (s : State) : Prop :=
  ∀ i j, (s.follower i).state ≠ .vacant → (s.follower j).state ≠ .vacant →
    (s.follower i).port = (s.follower j).port → (s.follower i).slot = (s.follower j).slot → i = j

/-! ## The Fence List -/

/-- The list is in non-decreasing order of bound, holds at most 64 fences, and every fence names a non-Vacant follower (R135); the model's serial numbers are distinct and below the next one. -/
structure State.FencesHold (s : State) : Prop where
  ordered : fencesOrdered s.fences.list
  room : s.fences.list.length ≤ 64
  named : ∀ f ∈ s.fences.list, (s.follower f.follower).state ≠ .vacant
  serials : (s.fences.list.map (·.serial)).Nodup
  next : ∀ f ∈ s.fences.list, f.serial < s.fences.nextSerial

/-! ## Rack ports -/

/-- What the port state and the activity say of the port's other fields (R74, R76, R78, R95). -/
structure Port.Sound (q : Port) : Prop where
  stopped : q.state ≠ .running → q.activity = .idle ∧ q.pendingAnnounce = false
  exchange : q.activity = .exchange ↔ q.exchange.isSome = true
  quiet : q.activity = .quiet ↔ q.quietEnd.isSome = true
  announcing : q.activity = .announcing → q.transmitting.isSome = true
  silent : q.activity = .idle ∨ q.activity = .quiet → q.transmitting = none
  driving : ∀ x, q.exchange = some x → (q.transmitting.isSome = true ↔ x.phase ≠ .awaiting)
  window : ∀ x, q.exchange = some x → x.phase = .awaiting → (x.windowEnd.isSome = true ↔ x.reply = none)
  probing : ∀ x, q.exchange = some x → x.phase = .probe → x.reply = none
  notices : ∀ x, q.exchange = some x → x.notices.length ≤ 6
  budget : 1 ≤ q.budget ∧ q.budget ≤ 255
  reload : 1 ≤ q.budgetReload ∧ q.budgetReload ≤ 255

/-- Every port is sound, an exchange in flight addresses a non-Vacant follower enrolled on its own port (R78), and a Retiring record has its exchange in flight (R60, R61). -/
structure State.PortsHold (s : State) : Prop where
  sound : ∀ p, (s.port p).Sound
  addressed : ∀ p x, (s.port p).exchange = some x →
    (s.follower x.follower).port = p ∧ (s.follower x.follower).state ≠ .vacant
  retiring : ∀ i, (s.follower i).state = .retiring →
    ∃ x, (s.port (s.follower i).port).exchange = some x ∧ x.follower = i

/-! ## Drift Watch -/

/-- A warning of None is never acknowledged, the lean limits do not exceed the excess limits, and no counter rests at a main value of 0 (R148, R149, R152). -/
structure Drift.Sound (d : Drift) : Prop where
  acknowledged : d.warning = .none → d.acknowledged = false
  leanRate : d.leanRate ≤ d.excessRate
  leanOffset : d.leanOffset ≤ d.excessOffset
  persistReload : 1 ≤ d.persistence.mainReload ∧ d.persistence.mainReload ≤ 127 ∧ d.persistence.prescaleReload ≤ 255
  calmReload : 1 ≤ d.calm.mainReload ∧ d.calm.mainReload ≤ 127 ∧ d.calm.prescaleReload ≤ 255
  persistence : 1 ≤ d.persistence.main ∧ d.persistence.main ≤ 127 ∧ d.persistence.prescale ≤ 255
  calm : 1 ≤ d.calm.main ∧ d.calm.main ≤ 127 ∧ d.calm.prescale ≤ 255

/-- The drift fields of every rack are sound. -/
def State.DriftHolds (s : State) : Prop := ∀ p, (s.rack p).drift.Sound

/-! ## Marks -/

/-- Command `c` delivers the mark `m` of reference `r`, and the mark is consistent (R37 to R40): a reception that ends with a frame of the length of a mark frame whose check passes, or an edge of the pulse input while the row-set flag is true, its label within the range of a label. -/
def State.Delivers (s : State) (c : Instr) (r : Reference) (m : Mark) : Prop :=
  (∃ l received f, c = .linkMarkReceptionEnd l received ∧ r = linkReference l ∧ (s.ref r).arriving = some m.arrival ∧
    parseMark received = some f ∧ m.label = f.label ∧ m.declaredU = f.declaredU ∧ (s.ref r).linkConsistent m = true) ∨
  (c = .pulseEdge ∧ r = .pulse ∧ s.row.rowSet = true ∧ m.arrival = s.now ∧ m.declaredU = (s.ref r).fixedU ∧
    m.label = (pulseLabelExact s.now (s.ref r).compensation).toNat ∧ m.label ≤ instantMax ∧ (s.ref r).pulseConsistent m = true)

end Sys2Proof.Machine
end

