-- ==== Sys2Proof/WellFormed.lean ====
section
/-! DEFINITION. Which commands can come about: what each row's name and the framing rules say of its operands. Every byte of a request's operands is admitted, since the part itself answers RANGE or clamps (R161). -/

namespace Sys2Proof

/-- A mark frame's reception ends at line idle or at its declared length plus one byte (R173): of the bytes after the delimiter, at most L + 4. -/
def markReceptionOk (received : List Byte) : Bool :=
  match received with
  | [] => true
  | length :: _ => decide (received.length ≤ length.toNat + 4)

/-- A rack bus frame's reception ends at line idle or at its declared length plus one byte (R86): of the bytes after the delimiter, at most L + 5. -/
def replyReceptionOk (received : List Byte) : Bool :=
  match received with
  | _ :: length :: _ => decide (received.length ≤ length.toNat + 5)
  | _ => true

/-- A frame cut before its last operand byte: empty, or a known code with too few operand bytes (R159). -/
def frameIncomplete (clocked : List Byte) : Bool :=
  match clocked with
  | [] => true
  | code :: operands =>
    match operandCount code with
    | some n => decide (operands.length < n)
    | none => false

/-- The command can come about. -/
def Instr.wf : Instr → Bool
  | .linkMarkReceptionEnd _ received => markReceptionOk received
  | .replyReceptionEnd _ received => replyReceptionOk received
  | .portEnable _ presence o => marksEnabled presence o 0x01
  | .portDisable _ presence o => marksEnabled presence o 0x00
  | .amendRackParameters _ presence o => !marksEnabled presence o 0x01 && !marksEnabled presence o 0x00
  | .unknownRequest code => (operandCount code).isNone
  | .managementFrameAbort clocked => frameIncomplete clocked
  | .powerOnReset | .warmUpEnd | .startUpIntervalEnd | .markDelimiterArrival _ | .pulseEdge | .missingMarkExpiry _
  | .holdoverToFree | .boundaryEvent | .persistenceExpiry _ | .calmExpiry _ | .secondPulseWindowStart | .secondPulseWindowEnd
  | .fenceClearing | .fenceExpiry _ | .fenceDrop _ | .announceStart _ | .announceEnd _ | .exchangeStart _ | .probeEnd _
  | .echoMismatch _ | .replyWindowExpiry _ | .replyArrival _ | .verdictEnd _ | .unsolicitedFrame _ | .quietFrame _
  | .quietWindowEnd _ | .transmitGuardTrip _ | .enrol _ _ _ | .amendFollower _ _ _ | .mute _ | .unmute _ | .retire _
  | .readFollower _ | .findFollower _ _ | .findNoticed | .order _ _ | .readRack _ | .ackWarning _ | .readRow | .amendRow _ _
  | .restartRow | .readReference _ | .amendReference _ _ _ _ | .select _ | .setBackup _ | .readFence _ | .readEvents
  | .setEventMask _ | .setLine _ _ _ _ _ | .identify => true

end Sys2Proof
end

