-- ==== Sys2Proof/Certificates/Slice0/Obligations.lean ====
section
/-! DEFINITION. The statements put to the provers, in the order of OBLIGATIONS.json. Unless a docstring says that a clause is the model's own choice, a clause formalises the rules of spec/ that its docstring names. -/

open Sys2Proof Sys2Proof.Machine

/-! ## The machine as a whole -/

/-- One step with a command at the front of the queue is that command's meaning on the state with the rest of the queue. -/
def Obligations.StepRunsFrontCommand : Prop :=
  ∀ (s : State) (c : Instr) (rest : List Instr), step { s with pending := c :: rest } = exec c { s with pending := rest }

/-- The model's own choice (log entries 1, 3 and 30): with no command waiting, the next event of the management link's wires takes place; with none of those waiting either, a due event takes place before time moves, and where several are due one of them does; where none is due, one unit of elapsed oscillator time passes. -/
def Obligations.IdleStepTakesDueEventOrTicks : Prop :=
  (∀ (s : State) (e : LinkEvent) (rest : List LinkEvent), s.pending = [] → s.wires = e :: rest →
    step s = ({ s with wires := rest } : State).linkEvent e) ∧
  ∀ s : State, s.pending = [] → s.wires = [] →
    (s.dueEvents = [] → step s = .next s.tick) ∧
    (∀ c, s.dueEvents = [c] → step s = exec c s) ∧
    (2 ≤ s.dueEvents.length → ∃ c ∈ s.dueEvents, step s = exec c s.choose)

/-- Nothing the manual describes stops the part: every command answers a next state from every state. That an event whose own condition fails answers a next state too (log entry 2), and that no command touches the two queues, POWER_ON_RESET included (log entries 4, 20, 22 and 30), are the model's own choices. -/
def Obligations.EveryCommandCompletesAndKeepsQueue : Prop :=
  ∀ (c : Instr) (s : State), ∃ t, exec c s = .next t ∧ t.pending = s.pending ∧ t.wires = s.wires

/-- POWER_ON_RESET gives every field the power-on value that R11, R12, R34, R35, R36, R51, R53, R74, R75, R124, R135, R136, R148, R149, R160, R163 and R166 give it; it ends any management frame, and where MCS is low the link waits for it to rise (R159). The model's own choices and readings among the clauses: elapsed 0, no standing expiry, no boundary passed, no open pulse window, no mark being received, no frame being sent, no response standing, and the two queues and the count of free values, which stay (log entries 22 and 30); and that a set mask bit masks (log entry 13). -/
def Obligations.PowerOnResetValues : Prop :=
  ∀ s : State, ∃ t, exec .powerOnReset s = .next t ∧
    (t.row.whole = 0 ∧ t.row.frac = 0 ∧ t.row.state = .warming ∧ t.row.rowSet = false ∧ t.row.y = 0 ∧ t.row.s = 0 ∧
      t.row.ur = 4294967295 ∧ t.row.entryTime = 0 ∧ t.row.entryUr = 0 ∧ t.row.warmUp = elapsedNs 180000000000 ∧ t.row.lastStep = 0 ∧
      t.row.stepLimit = 50000 ∧ t.row.sanityLimit = 200000 ∧ t.row.urLimit = 1000000 ∧ t.row.gain = 4 ∧ t.row.wander = 1600) ∧
    (∀ r, (t.ref r).state = .absent ∧ (t.ref r).qualifyCount = 0 ∧ (t.ref r).lastLabel = 0 ∧ (t.ref r).lastArrival = 0 ∧
      (t.ref r).lastU = 0 ∧ (t.ref r).rejects = 0 ∧ (t.ref r).lastError = 0 ∧ (t.ref r).arriving = none ∧
      (t.ref r).compensation = 0 ∧ (t.ref r).ceiling = 50000) ∧ (t.ref .pulse).fixedU = 100 ∧
    t.selector.selected = .hallA ∧ t.selector.backup = some .hallB ∧ t.selector.inUse = none ∧ t.selector.firstMark = false ∧
    (∀ i, t.follower i =
      { state := .vacant, port := 0, slot := 0, kind := .server, periodClass := 0, settleReload := 1, settleCount := 0, wander := 0,
        shift := 0, maxAge := 1000000, slotA := ⟨false, 0, 0, 0, 0, 0⟩, slotB := ⟨false, 0, 0, 0, 0, 0⟩, selector := .a,
        rateBase := false, freshSince := 0, nextDue := 0, consecutiveFaults := 0, lastFault := none, goodCount := 0,
        faultedCount := 0, holding := false, pendingOrder := none, lastOutcome := none, notify := ⟨false, false, false⟩, noticed := false }) ∧
    (∀ p, (t.rack p).trustOffset = 50000 ∧ (t.rack p).faultLimit = 4 ∧ (t.rack p).dateCeiling = 1000000 ∧
      (t.rack p).rackPenalty = 5000 ∧ (t.rack p).driftPolicy = .widen ∧
      t.port p =
        { state := .disabled, activity := .idle, sequence := 0, pendingAnnounce := false, exchange := none, budget := 32,
          unsolicited := 0, degraded := 0, quietEnd := none, transmitting := none, replyWindow := 1000, asymmetry := 0,
          baseError := 50, delayCeiling := 20000, budgetReload := 32 } ∧
      (t.rack p).drift =
        { members := 0, meanRate := 0, widest := 0, state := .unknown, persistence := ⟨30, 9, 30, 9, false⟩,
          calm := ⟨60, 9, 60, 9, false⟩, warning := .none, acknowledged := false, minMembers := 2, leanRate := 1600,
          excessRate := 8000, leanOffset := 2000, excessOffset := 20000 }) ∧
    t.fences.list = [] ∧ t.fences.horizon = 10 ∧ t.fences.waitMax = 30 ∧ t.fences.dropped = 0 ∧
    t.link.events = ⟨false, false, false, false, 0, 0, 0, false, false⟩ ∧ t.link.mask = 0x1FF#9 ∧
    t.link.ready = false ∧ t.link.startUp = elapsedNs 10000000 ∧
    (∀ w : Fin 4, t.lines[w] = { function := .level, activeHigh := true, rack := 0, level := false } ∧ t.lineHigh w = false) ∧
    t.elapsed = 0 ∧ t.boundaries = 0 ∧ t.pulseWindow = false ∧ t.pending = s.pending ∧ t.wires = s.wires ∧ t.choices = s.choices ∧
    t.link.response = [] ∧ (s.link.frame = .closed → t.link.frame = .closed) ∧ (s.link.frame ≠ .closed → t.link.frame = .awaitRise)

/-! ## The Row Clock -/

/-- WARM_UP_END (R16, R46): when the warm-up timer has run out the row enters Acquiring with s set to y, and a selected or backup reference that is Usable is designated; nothing else changes. That the timer has run out where nothing of it is left is the model's reading (log entry 12). -/
def Obligations.WarmUpEndEntersAcquiring : Prop :=
  ∀ s : State, s.row.state = .warming → s.row.warmUp = 0 → s.selector.inUse = none →
    ∃ t, exec .warmUpEnd s = .next t ∧ t.row = { s.row with state := .acquiring, s := s.row.y } ∧
      (s.candidate = none → t.selector = s.selector ∧
        t.link = { s.link with events := { s.link.events with rowStateChanged := true } }) ∧
      (∀ r, s.candidate = some r →
        t.selector = { s.selector.setRef r { s.ref r with rejects := 0 } with inUse := some r, firstMark := true } ∧
        t.link = { s.link with events := { s.link.events with rowStateChanged := true, referenceSwitched := true } }) ∧
      { t with row := s.row, selector := s.selector, link := s.link } = s

/-- START_UP_INTERVAL_END, HOLDOVER_TO_FREE, SECOND_PULSE_WINDOW_START and SECOND_PULSE_WINDOW_END (R160, R26 and R27, R167), each where its own condition holds; HOLDOVER_TO_FREE changes nothing while Ur has not exceeded the Ur limit. That the start-up interval has run out where nothing of it is left, and that the Second pulse condition is a field with two steps, are the model's own (log entries 12 and 15). -/
def Obligations.TimedRowEventsTakeEffect : Prop :=
  ∀ s : State,
    (s.link.ready = false → s.link.startUp = 0 →
      exec .startUpIntervalEnd s = .next { s with link := { s.link with ready := true } }) ∧
    (s.row.state = .holdover →
      let ur := min (s.row.entryUr + ceilDiv (s.row.wander * (s.row.whole - s.row.entryTime)) 16000000000) 4294967295
      (s.row.urLimit < ur → exec .holdoverToFree s = .next { s with
        row := { s.row with state := .free }, link := { s.link with events := { s.link.events with rowStateChanged := true } } }) ∧
      (ur ≤ s.row.urLimit → exec .holdoverToFree s = .next s)) ∧
    (s.row.pulseCondition = true → s.pulseWindow = false → exec .secondPulseWindowStart s = .next { s with pulseWindow := true }) ∧
    (s.row.pulseCondition = false → s.pulseWindow = true → exec .secondPulseWindowEnd s = .next { s with pulseWindow := false })

/-- A boundary is passed, and a pulse window lies open, by comparisons that include the fraction of row time: strictly above the multiple, and up to 1 ms above it included (R1, R29, R167). -/
def Obligations.BoundariesAndPulseWindowsAreStrict : Prop :=
  (∀ s : State, s.boundaryDue = true ↔ 4294967296 * (100000000 * (s.boundaries + 1)) < s.row.fine) ∧
  (∀ r : Row, r.pulseCondition = true ↔ r.rowSet = true ∧
    ∃ m, 1 ≤ m ∧ 4294967296 * (1000000000 * m) < r.fine ∧ r.fine ≤ 4294967296 * (1000000 + 1000000000 * m))

/-- Between the events that change it row time advances by (1 + s / 16,000,000,000) of the elapsed oscillator time, nothing lost in rounding: what the fraction cannot hold stands in the model's residue (R14; the residue is the model's own, log entry 1), below the top of the range; and two advances are one. -/
def Obligations.AdvanceIsExactAndAddsUp : Prop :=
  ∀ (r : Row) (a b : Nat),
    (r.advance a).advance b = r.advance (a + b) ∧
    (-16000000000 ≤ r.s → (r.advance a).fine < topOfTime →
      16000000000 * ((r.advance a).fine : Int) + (r.advance a).residue =
        16000000000 * (r.fine : Int) + r.residue + a * (16000000000 + r.s)) ∧
    ((r.advance a).y = r.y ∧ (r.advance a).s = r.s ∧ (r.advance a).state = r.state ∧ (r.advance a).ur = r.ur)

/-- Row time never decreases except at POWER_ON_RESET, and between advances only a mark moves it; y is written by marks alone, and every other command leaves s or sets it to y (R14, R15). -/
def Obligations.RowTimeAndSteerMoveByRule : Prop :=
  ∀ (c : Instr) (s t : State), s.row.fine ≤ topOfTime → exec c s = .next t → c ≠ .powerOnReset →
    s.row.fine ≤ t.row.fine ∧ s.row.fine ≤ s.tick.row.fine ∧
    ((∀ l received, c ≠ .linkMarkReceptionEnd l received) → c ≠ .pulseEdge →
      t.row.fine = s.row.fine ∧ t.row.y = s.row.y ∧ (t.row.s = s.row.s ∨ t.row.s = s.row.y))

/-- The moves of the row state, for every step but one that takes POWER_ON_RESET: nothing enters Warming, Warming is left for Acquiring alone, Free never returns to Holdover, and every change raises the row state changed event (R16, R27, R32). -/
def Obligations.RowStateMovesAreReported : Prop :=
  ∀ s t : State, step s = .next t → s.pending.head? ≠ some .powerOnReset →
    (t.row.state = .warming → s.row.state = .warming) ∧
    (s.row.state = .warming → t.row.state = .warming ∨ t.row.state = .acquiring) ∧
    (s.row.state = .free → t.row.state ≠ .holdover) ∧
    (t.row.state ≠ s.row.state → t.link.events.rowStateChanged = true)

/-- Uncertainty grows by the least whole number of ns that covers W × Δ / 16,000,000,000, and while the row stays in Holdover or Free no step lowers Ur, an amended wander included (R7, R13, R26). -/
def Obligations.HoldoverUncertaintyNeverFalls : Prop :=
  (∀ w d n, growth w d ≤ n ↔ w * d ≤ 16000000000 * n) ∧
  (∀ s t : State, s.row.fine ≤ topOfTime → step s = .next t →
    (s.row.state = .holdover ∨ s.row.state = .free) → (t.row.state = .holdover ∨ t.row.state = .free) →
    s.row.currentUr ≤ t.row.currentUr)

/-- RESTART-ROW outside Warming (R30, R31, R69, R96, R143, R156): the row goes to Acquiring on its learned frequency with Ur at U_MAX and row time kept; every active record resettles with an epoch; exchanges in flight end Crossed and every Running port has a pending Announce; Waiting fences are Voided; every warning is None and every counter reloaded. A Retiring record whose exchange is crossed becomes Vacant and its fences are gone (R61, R62, R63, R144); that the crossing comes before the epoch and the voiding is the model's order (log entry 17). -/
def Obligations.RestartRowDelivers : Prop :=
  ∀ s : State, s.link.ready = true →
    (s.row.state = .warming → exec .restartRow s = .next (s.answer .state [])) ∧
    (s.row.state ≠ .warming →
      let gone (i : FollowerId) : Bool := (s.follower i).state == .retiring && allRacks.any fun p => (s.port p).exchange.any fun x => x.follower == i
      let vacant (f : Follower) : Follower := { Follower.powerOn with
        lastOutcome := (match f.pendingOrder with | some o => some (.cancelled, o.kind) | none => f.lastOutcome)
        noticed := f.noticed || (f.pendingOrder.isSome && f.notify.onOrder) }
      ∃ t, exec .restartRow s = .next t ∧ t.link.response = [0x01] ∧
      t.row = { s.row with state := .acquiring, s := s.row.y, ur := 4294967295 } ∧
      (s.row.state ≠ .acquiring → t.link.events.rowStateChanged = true) ∧
      (∀ i, let f := s.follower i
        (f.state.active = true → t.follower i =
          { f with state := .settling, settleCount := f.settleReload, rateBase := false, freshSince := s.row.whole }) ∧
        (f.state = .muted → t.follower i = { f with rateBase := false, freshSince := s.row.whole }) ∧
        (f.state = .retiring → t.follower i = if gone i then vacant f else { f with rateBase := false, freshSince := s.row.whole }) ∧
        (f.state = .vacant → t.follower i = f)) ∧
      (∀ p, let q := s.port p
        (q.exchange = none → t.port p = { q with pendingAnnounce := q.pendingAnnounce || q.state == .running }) ∧
        (q.exchange.isSome = true → t.port p = { q with
          exchange := none, transmitting := none, activity := .quiet, pendingAnnounce := q.pendingAnnounce || q.state == .running
          quietEnd := some (s.elapsed + elapsedNs (1000 * q.replyWindow)) })) ∧
      (∀ p, (t.rack p).drift.warning = .none ∧ (t.rack p).drift.acknowledged = false ∧
        (t.rack p).drift.persistence.main = (s.rack p).drift.persistence.mainReload ∧
        (t.rack p).drift.persistence.prescale = (s.rack p).drift.persistence.prescaleReload ∧
        (t.rack p).drift.calm.main = (s.rack p).drift.calm.mainReload ∧
        (t.rack p).drift.calm.prescale = (s.rack p).drift.calm.prescaleReload ∧
        ((s.rack p).drift.warning ≠ .none → t.link.events.rackWarning.getLsbD p.val = true)) ∧
      (∀ f ∈ t.fences.list, f.state ≠ .waiting) ∧
      t.fences = { s.fences with list := (s.fences.list.filter fun f => !gone f.follower).map fun f =>
        if f.state = .waiting then { f with state := .voidedRestart, lastChange := s.row.whole } else f } ∧
      t.selector = s.selector ∧ t.lines = s.lines ∧ t.boundaries = s.boundaries ∧ t.elapsed = s.elapsed)

/-! ## The Reference Selector -/

/-- MARK_DELIMITER_ARRIVAL stamps a mark frame with the whole part of row time (R10); an edge is discarded while the row-set flag is false (R39); a consistent mark of a reference that is not in use is recorded and counted, the fifth making it Usable (R38, R39, R40, R41, R43). While another reference is in use, and in Warming, it does nothing else; while none is in use and the row is not Warming, the selected reference if Usable, otherwise the backup if Usable, is designated: in use, first-mark flag set, rejects 0, reference switched event raised, the row record kept (R16, R46). -/
def Obligations.MarksOutOfUseAreRecorded : Prop :=
  (∀ (l : LinkInput) (s : State), (s.ref (linkReference l)).arriving = none →
    exec (.markDelimiterArrival l) s =
      .next (s.setRef (linkReference l) { s.ref (linkReference l) with arriving := some s.row.whole })) ∧
  (∀ s : State, s.row.rowSet = false → exec .pulseEdge s = .next s) ∧
  (∀ (c : Instr) (s : State) (r : Reference) (m : Mark), s.Delivers c r m →
    let v := s.ref r
    let w : RefRecord := { v with
      arriving := if c = .pulseEdge then v.arriving else none
      lastLabel := m.label, lastU := m.declaredU, lastArrival := m.arrival
      lastError := (m.label : Int) + v.compensation - m.arrival
      state := match v.state with
        | .absent | .faulted => .qualifying
        | .qualifying => if v.qualifyCount < 4 then .qualifying else .usable
        | .usable => .usable
      qualifyCount := match v.state with
        | .absent | .faulted => 1
        | .qualifying => if v.qualifyCount < 4 then v.qualifyCount + 1 else 5
        | .usable => v.qualifyCount }
    let u := s.selector.setRef r w
    let chosen (q : Reference) : Prop := (u.ref q).state = .usable ∧
      (q = u.selected ∨ (u.backup = some q ∧ (u.ref u.selected).state ≠ .usable))
    (∀ q, s.selector.inUse = some q → q ≠ r →
      ∃ t, exec c s = .next t ∧ t.ref r = w ∧ t.selector = u ∧ { t with selector := s.selector, choices := s.choices } = s) ∧
    (s.selector.inUse = none →
      (s.row.state = .warming ∨ (∀ q, ¬ chosen q) →
        ∃ t, exec c s = .next t ∧ t.ref r = w ∧ t.selector = u ∧ { t with selector := s.selector, choices := s.choices } = s) ∧
      (∀ q, s.row.state ≠ .warming → chosen q →
        ∃ t, exec c s = .next t ∧
          t.selector = { u.setRef q { u.ref q with rejects := 0 } with inUse := some q, firstMark := true } ∧
          t.link = { s.link with events := { s.link.events with referenceSwitched := true } } ∧
          { t with selector := s.selector, link := s.link, choices := s.choices } = s)))

/-- An inconsistent mark (R37, R38, R40, R41, R173): a frame that fails its check or has not the length of a mark frame is not recorded, any other mark is; then Qualifying falls to count 0, Usable becomes Faulted and raises the reference faulted event, Absent and Faulted stay. A reference in use that becomes Faulted is replaced by the selected reference or else the backup, whichever is Usable and is not the one leaving, with the row record kept; where there is none, an Acquiring or Locked row enters Holdover, or Free if Ur exceeds the Ur limit (R25, R45). That the first-mark flag is kept at the loss is the model's reading (log entry 26), and the Pulse label is stated within its range (log entry 7). -/
def Obligations.InconsistentMarksSetBackOrFault : Prop :=
  ∀ (s : State) (r : Reference),
    let faultEvents : Events := { s.link.events with referenceFaulted := true }
    let replaces (q : Reference) : Prop := q ≠ r ∧ (s.ref q).state = .usable ∧
      (q = s.selector.selected ∨
        (s.selector.backup = some q ∧ (s.selector.selected = r ∨ (s.ref s.selector.selected).state ≠ .usable)))
    let after (w : RefRecord) (t : State) : Prop :=
      let faulted : RefRecord := { w with state := .faulted, qualifyCount := 0 }
      (w.state = .absent ∨ w.state = .faulted → t = s.setRef r w) ∧
      (w.state = .qualifying → t = s.setRef r { w with qualifyCount := 0 }) ∧
      (w.state = .usable → s.selector.inUse ≠ some r → t = (s.setRef r faulted).raise .referenceFaulted) ∧
      (∀ q, w.state = .usable → s.selector.inUse = some r → replaces q → t = { s with
        selector := { (s.selector.setRef r faulted).setRef q { s.ref q with rejects := 0 } with inUse := some q, firstMark := true }
        link := { s.link with events := { faultEvents with referenceSwitched := true } } }) ∧
      (w.state = .usable → s.selector.inUse = some r → (∀ q, ¬ replaces q) →
        t.selector = { s.selector.setRef r faulted with inUse := none } ∧
        (s.row.state = .acquiring ∨ s.row.state = .locked →
          t.row = { s.row with
            entryTime := s.row.whole, entryUr := s.row.ur, s := s.row.y
            state := if s.row.urLimit < s.row.ur then .free else .holdover } ∧
          t.link = { s.link with events := { faultEvents with rowStateChanged := true } }) ∧
        (s.row.state ≠ .acquiring → s.row.state ≠ .locked → t.row = s.row ∧ t.link = { s.link with events := faultEvents }) ∧
        { t with row := s.row, selector := s.selector, link := s.link } = s)
    let v := s.ref r
    (∀ l received a, r = linkReference l → v.arriving = some a → parseMark received = none →
      ∃ t, exec (.linkMarkReceptionEnd l received) s = .next t ∧ after { v with arriving := none } t) ∧
    (∀ l received a f, r = linkReference l → v.arriving = some a → parseMark received = some f →
      (f.label % 1000000000 ≠ 0 ∨ v.ceiling < f.declaredU ∨
        (v.state ≠ .absent ∧ v.state ≠ .faulted ∧ f.label ≠ 1000000000 + v.lastLabel)) →
      ∃ t, exec (.linkMarkReceptionEnd l received) s = .next t ∧
        after { v with arriving := none, lastLabel := f.label, lastU := f.declaredU, lastArrival := a } t) ∧
    (r = .pulse → s.row.rowSet = true →
      (v.ceiling < v.fixedU ∨ (v.state ≠ .absent ∧ v.state ≠ .faulted ∧
        (s.row.whole < 999900000 + v.lastArrival ∨ 1000100000 + v.lastArrival < s.row.whole))) →
      let label := (1000000000 * ((2 * ((s.row.whole : Int) - v.compensation) + 1000000000) / 2000000000)).toNat
      label ≤ instantMax →
      ∃ t, exec .pulseEdge s = .next { t with choices := s.choices + 1 } ∧ t.choices = s.choices ∧
        after { v with lastLabel := label, lastU := v.fixedU, lastArrival := s.row.whole } t)

/-- MISSING_MARK_EXPIRY (R42, R45, R46, R25): a Qualifying reference becomes Absent, a Usable one Faulted; one that was in use is replaced by the selected reference or else the backup, whichever is Usable and is not the one leaving, with the row record kept; and where there is none an Acquiring or Locked row enters Holdover, or Free if Ur exceeds the Ur limit. That the first-mark flag is kept at the loss is the model's reading (log entry 26). -/
def Obligations.SilentReferenceIsReplacedOrLost : Prop :=
  ∀ (s : State) (r : Reference), 4294967296 * (2500000000 + (s.ref r).lastArrival) < s.row.fine →
    let v := s.ref r
    let faulted : RefRecord := { v with state := .faulted, qualifyCount := 0 }
    let faultEvents : Events := { s.link.events with referenceFaulted := true }
    let replaces (q : Reference) : Prop := q ≠ r ∧ (s.ref q).state = .usable ∧
      (q = s.selector.selected ∨
        (s.selector.backup = some q ∧ (s.selector.selected = r ∨ (s.ref s.selector.selected).state ≠ .usable)))
    (v.state = .qualifying →
      exec (.missingMarkExpiry r) s = .next (s.setRef r { v with state := .absent, qualifyCount := 0 })) ∧
    (v.state = .usable → s.selector.inUse ≠ some r →
      exec (.missingMarkExpiry r) s = .next ((s.setRef r faulted).raise .referenceFaulted)) ∧
    (∀ q, v.state = .usable → s.selector.inUse = some r → replaces q →
      exec (.missingMarkExpiry r) s = .next { s with
        selector := { (s.selector.setRef r faulted).setRef q { s.ref q with rejects := 0 } with inUse := some q, firstMark := true }
        link := { s.link with events := { faultEvents with referenceSwitched := true } } }) ∧
    (v.state = .usable → s.selector.inUse = some r → (∀ q, ¬ replaces q) →
      ∃ t, exec (.missingMarkExpiry r) s = .next t ∧
        t.selector = { s.selector.setRef r faulted with inUse := none } ∧
        (s.row.state = .acquiring ∨ s.row.state = .locked →
          t.row = { s.row with
            entryTime := s.row.whole, entryUr := s.row.ur, s := s.row.y
            state := if s.row.urLimit < s.row.ur then .free else .holdover } ∧
          t.link = { s.link with events := { faultEvents with rowStateChanged := true } }) ∧
        (s.row.state ≠ .acquiring → s.row.state ≠ .locked → t.row = s.row ∧ t.link = { s.link with events := faultEvents }) ∧
        { t with row := s.row, selector := s.selector, link := s.link } = s)

/-- A used mark that slews (R18, R20, R21, R22, R43, R44): a consistent mark of the in-use reference whose error does not exceed the step limit, in a row that is not Warming and does not reject it. y, s and Ur are written by R20, the row state is Acquiring, Locked or by R21 Acquiring, and no other block is touched. That the Second pulse condition is taken afresh in the mark's own step is log entry 15, and that a first used mark inside a pulse window asserts it at once, against the last paragraph of R167, is log entry 31. -/
def Obligations.UsedMarkSlewsTheRow : Prop :=
  ∀ (c : Instr) (s : State) (r : Reference) (m : Mark), s.Delivers c r m → s.selector.inUse = some r → s.row.state ≠ .warming →
    let v := s.ref r
    let row := s.row
    let e : Int := (m.label : Int) + v.compensation - m.arrival
    (row.state = .locked → s.selector.firstMark = false → e.natAbs ≤ row.sanityLimit) → e ≤ row.stepLimit →
    let ec := max e (-(row.stepLimit : Int))
    let y' := max (-160000) (min (row.y + 16 * ec / 2 ^ row.gain) 160000)
    let ur' := min (m.declaredU + e.natAbs) 4294967295
    let state' : RowState := if e < -(row.stepLimit : Int) then .acquiring else if row.urLimit < ur' then .acquiring else .locked
    ∃ t, exec c s = .next t ∧
      t.row = { row with y := y', s := max (-320000) (min (y' + 8 * ec) 320000), ur := ur', rowSet := true, state := state' } ∧
      t.ref r = { (v.record m true).qualify with rejects := 0, arriving := if c = .pulseEdge then v.arriving else none } ∧
      (∀ x, x ≠ r → t.ref x = s.ref x) ∧
      t.selector.selected = s.selector.selected ∧ t.selector.backup = s.selector.backup ∧ t.selector.inUse = some r ∧
      t.selector.firstMark = false ∧
      t.link = { s.link with events := { s.link.events with
        rowStateChanged := s.link.events.rowStateChanged || state' != row.state } } ∧
      t.pulseWindow = t.row.pulseCondition ∧
      { t with row := row, selector := s.selector, link := s.link, pulseWindow := s.pulseWindow, choices := s.choices } = s

/-- A used mark that steps (R18, R19, R21, R22, R23, R42, R69, R96): row time is set forward by the whole of e, holding at the top of its range; s becomes y, Ur the declared u; the mark's arrival is recorded on the stepped scale; every active record resettles with an epoch at the stepped row time and keeps its estimates; exchanges in flight end Crossed, a Retiring record crossed becoming Vacant without its fences (R61, R62, R63), and every Running port has a pending Announce; other Waiting fences stay, and nothing but time moves the other references. A step that passes n ≥ 1 multiples of 100,000,000 ns counts them all and delivers one boundary event (R29): the age test (R67) and the evaluation of every rack whose port is not Disabled (R150, R151, R153). Which of epoch and boundary is first is open, and one order holds for the whole step (R69, R150, log entry 5); the crossing before both is the model's order (log entry 17), the counters are stated where no earlier expiry stands (log entry 8), and the Second pulse condition is taken afresh in the step (log entry 15). -/
def Obligations.UsedMarkStepsTheRow : Prop :=
  ∀ (c : Instr) (s : State) (r : Reference) (m : Mark), s.Delivers c r m → s.selector.inUse = some r → s.row.state ≠ .warming →
    let v := s.ref r
    let row := s.row
    let e : Int := (m.label : Int) + v.compensation - m.arrival
    let gone (i : FollowerId) : Bool := (s.follower i).state == .retiring && allRacks.any fun p => (s.port p).exchange.any fun x => x.follower == i
    let vacant (f : Follower) : Follower := { Follower.powerOn with
        lastOutcome := (match f.pendingOrder with | some o => some (.cancelled, o.kind) | none => f.lastOutcome)
        noticed := f.noticed || (f.pendingOrder.isSome && f.notify.onOrder) }
    (row.state = .locked → s.selector.firstMark = false → e.natAbs ≤ row.sanityLimit) → row.stepLimit < e →
    ∃ (t : State) (boundaryFirst : Bool), exec c s = .next t ∧
      t.row.fine = min (row.fine + 4294967296 * e.toNat) topOfTime ∧ t.row.s = row.y ∧ t.row.y = row.y ∧
      t.row.ur = m.declaredU ∧ t.row.rowSet = true ∧ (e ≤ instantMax → t.row.lastStep = e.toNat) ∧
      t.row.state = (if row.urLimit < m.declaredU then .acquiring else .locked) ∧
      t.link.events.rowStepped = true ∧ (t.row.state ≠ row.state → t.link.events.rowStateChanged = true) ∧
      (m.arrival + e ≤ instantMax → (t.ref r).lastArrival = m.arrival + e.toNat) ∧
      (t.ref r).rejects = 0 ∧ (t.ref r).lastLabel = m.label ∧ (t.ref r).lastError = e ∧
      (∀ x, x ≠ r → t.ref x = s.ref x) ∧ t.selector.inUse = some r ∧ t.selector.firstMark = false ∧
      (let n := (t.row.fine - 1) / (4294967296 * 100000000) - (row.fine - 1) / (4294967296 * 100000000)
        let late (f : Follower) : Bool := decide (0 < n) && boundaryFirst && (f.state == .settling || f.state == .trusted) &&
          decide (8 * (125000000 * 2 ^ f.periodClass) < t.row.whole - f.freshSince)
        t.boundaries = s.boundaries + n ∧
        (∀ i, let f := s.follower i
          (f.state.active = true → t.follower i = { f with
            state := .settling, settleCount := f.settleReload, rateBase := false, freshSince := t.row.whole
            noticed := f.noticed || (late f && f.notify.onStale) }) ∧
          (f.state.active = true → late f = true → f.notify.onStale = true → t.link.events.followerNotice = true) ∧
          (f.state = .muted → t.follower i = { f with rateBase := false, freshSince := t.row.whole }) ∧
          (f.state = .retiring → t.follower i = if gone i then vacant f else { f with rateBase := false, freshSince := t.row.whole }) ∧
          (f.state = .vacant → t.follower i = f)) ∧
        (∀ p, { t.rack p with port := (s.rack p).port, drift := (s.rack p).drift } = s.rack p) ∧
        (∀ p, n = 0 ∨ (s.port p).state = .disabled → (t.rack p).drift = (s.rack p).drift) ∧
        (∀ p, 0 < n → (s.port p).state ≠ .disabled →
          let d := (s.rack p).drift
          let members := if boundaryFirst then s.followers.toList.filter fun f => f.state == .trusted && f.port == p && !late f else []
          let count := members.length
          let mean : Int := if count = 0 then 0 else Int.tdiv ((members.map fun f => f.published.rate).sum) count
          let widest := (members.map fun f => f.published.theta.natAbs).foldl max 0
          let state' : DriftState :=
            if count < d.minMembers then .unknown
            else if d.excessRate < mean.natAbs ∨ d.excessOffset < widest then .excess
            else if d.leanRate < mean.natAbs ∨ d.leanOffset < widest then .leaning
            else .calm
          (t.rack p).drift.members = count ∧ (t.rack p).drift.meanRate = mean ∧ (t.rack p).drift.widest = widest ∧
          (t.rack p).drift.state = state' ∧
          (d.persistence.standing = false → d.calm.standing = false → (t.rack p).drift = { d with
            members := count, meanRate := mean, widest := widest, state := state'
            persistence := (match state' with
              | .unknown => d.persistence | .calm => d.persistence.reload | .leaning | .excess => d.persistence.count)
            calm := (match state' with
              | .unknown => d.calm | .calm => d.calm.count | .leaning | .excess => d.calm.reload) }))) ∧
      (∀ p, let q := s.port p
        (q.exchange = none → t.port p = { q with pendingAnnounce := q.pendingAnnounce || q.state == .running }) ∧
        (q.exchange.isSome = true → t.port p = { q with
          exchange := none, transmitting := none, activity := .quiet, pendingAnnounce := q.pendingAnnounce || q.state == .running
          quietEnd := some (s.elapsed + elapsedNs (1000 * q.replyWindow)) })) ∧
      t.fences = { s.fences with list := s.fences.list.filter fun f => !gone f.follower } ∧
      t.pulseWindow = t.row.pulseCondition ∧ t.elapsed = s.elapsed ∧ t.lines = s.lines

/-- The sanity check of a Locked row (R44): a consistent mark of the in-use reference that is not exempt and whose error is beyond the sanity limit is recorded and not passed, the row record stands, and the third rejection faults the reference. -/
def Obligations.SanityRejectionsFaultTheReference : Prop :=
  ∀ (c : Instr) (s : State) (r : Reference) (m : Mark), s.Delivers c r m → s.selector.inUse = some r →
    s.row.state = .locked → s.selector.firstMark = false →
    let v := s.ref r
    s.row.sanityLimit < ((m.label : Int) + v.compensation - m.arrival).natAbs →
    let w : RefRecord := { (v.record m true).qualify with rejects := v.rejects + 1, arriving := if c = .pulseEdge then v.arriving else none }
    ∃ t, exec c s = .next t ∧ t.row.y = s.row.y ∧ t.row.ur = s.row.ur ∧ t.row.fine = s.row.fine ∧
      (v.rejects + 1 < 3 → t.ref r = w ∧ t.row = s.row ∧ t.selector = { s.selector.setRef r w with firstMark := false } ∧
        { t with selector := s.selector, choices := s.choices } = s) ∧
      (3 ≤ v.rejects + 1 → t.ref r = { w with state := .faulted, qualifyCount := 0 } ∧ t.selector.inUse ≠ some r ∧
        t.link.events.referenceFaulted = true ∧
        (t.selector.inUse = none → t.row.state = if s.row.urLimit < s.row.ur then .free else .holdover) ∧
        (t.selector.inUse ≠ none → t.row = s.row ∧ t.link.events.referenceSwitched = true))

/-- AMEND-REFERENCE clamps and writes a reference's parameters (R36); SELECT names the selected reference, swaps the backup role and puts the reference in use (R47); SET-BACKUP names the backup, and a Usable one is designated where nothing is in use and the selected reference is not Usable (R48, R46). -/
def Obligations.ReferenceRequestsAct : Prop :=
  ∀ (s : State) (b : Byte), s.link.ready = true →
    (∀ comp ceil fixed, (3 < b.toNat → exec (.amendReference b comp ceil fixed) s = .next (s.answer .range [])) ∧
      (∀ r, referenceOf b = some r → exec (.amendReference b comp ceil fixed) s = .next ((s.setRef r { s.ref r with
        compensation := min comp.toNat 1000000
        ceiling := max 1 (min ceil.toNat 1000000)
        fixedU := if r = .pulse then max 1 (min fixed.toNat 1000000) else (s.ref r).fixedU }).answer .done []))) ∧
    (3 < b.toNat → exec (.select b) s = .next (s.answer .range [])) ∧
    (∀ r, referenceOf b = some r →
      let x : Selector := { s.selector with
        selected := r, backup := if s.selector.backup = some r then some s.selector.selected else s.selector.backup }
      (s.row.state = .warming ∨ (s.ref r).state ≠ .usable ∨ (r = .pulse ∧ s.row.rowSet = false) →
        exec (.select b) s = .next (s.answer .state [])) ∧
      (s.row.state ≠ .warming → (s.ref r).state = .usable → (r = .pulse → s.row.rowSet = true) →
        (s.selector.inUse = some r → exec (.select b) s = .next (({ s with selector := x } : State).answer .done [])) ∧
        (s.selector.inUse ≠ some r → exec (.select b) s = .next (({ s with
          selector := { x.setRef r { s.ref r with rejects := 0 } with inUse := some r, firstMark := true }
          link := { s.link with events := { s.link.events with referenceSwitched := true } } } : State).answer .done [])))) ∧
    (4 < b.toNat → exec (.setBackup b) s = .next (s.answer .range [])) ∧
    (∀ n : Option Reference, (n = none ∧ b.toNat = 4 ∨ n.isSome = true ∧ referenceOf b = n) →
      (n = some s.selector.selected → exec (.setBackup b) s = .next (s.answer .state [])) ∧
      (n ≠ some s.selector.selected →
        (s.row.state = .warming ∨ s.selector.inUse ≠ none ∨ (s.ref s.selector.selected).state = .usable ∨
          (∀ r, n = some r → (s.ref r).state ≠ .usable) →
          exec (.setBackup b) s = .next (({ s with selector := { s.selector with backup := n } } : State).answer .done [])) ∧
        (∀ r, n = some r → s.row.state ≠ .warming → s.selector.inUse = none → (s.ref s.selector.selected).state ≠ .usable →
          (s.ref r).state = .usable →
          exec (.setBackup b) s = .next (({ s with
            selector := { s.selector.setRef r { s.ref r with rejects := 0 } with backup := n, inUse := some r, firstMark := true }
            link := { s.link with events := { s.link.events with referenceSwitched := true } } } : State).answer .done []))))

/-! ## Drift Watch -/

/-- BOUNDARY_EVENT (R29, R67, R150, R151, R153): every Settling or Trusted record older than 8 base periods becomes Stale; every rack whose port is not Disabled is measured from its Trusted records and classified, and its counters count or reload; a rack whose port is Disabled keeps everything; nothing else changes but event flags. The clause on the counters is for a rack on which no expiry of an earlier boundary still waits for its own command (log entry 8). -/
def Obligations.BoundaryAgesAndMeasures : Prop :=
  ∀ s : State, s.boundaryDue = true → ∃ t, exec .boundaryEvent s = .next t ∧ t.boundaries = s.boundaries + 1 ∧
    (∀ i, let f := s.follower i
      t.follower i =
        if (f.state = .settling ∨ f.state = .trusted) ∧ 8 * (125000000 * 2 ^ f.periodClass) < s.row.whole - f.freshSince
        then { f with state := .stale, noticed := f.noticed || f.notify.onStale } else f) ∧
    (∀ p, (s.port p).state = .disabled → t.rack p = s.rack p) ∧
    (∀ p, (s.port p).state ≠ .disabled →
      let d := (s.rack p).drift
      let members := t.followers.toList.filter fun f => f.state == .trusted && f.port == p
      let n := members.length
      let mean : Int := if n = 0 then 0 else Int.tdiv ((members.map fun f => f.published.rate).sum) n
      let widest := (members.map fun f => f.published.theta.natAbs).foldl max 0
      let state' : DriftState :=
        if n < d.minMembers then .unknown
        else if d.excessRate < mean.natAbs ∨ d.excessOffset < widest then .excess
        else if d.leanRate < mean.natAbs ∨ d.leanOffset < widest then .leaning
        else .calm
      (t.rack p).drift.members = n ∧ (t.rack p).drift.meanRate = mean ∧ (t.rack p).drift.widest = widest ∧
      (t.rack p).drift.state = state' ∧
      (d.persistence.standing = false → d.calm.standing = false →
        t.rack p = { s.rack p with drift := { d with
          members := n, meanRate := mean, widest := widest, state := state'
          persistence := (match state' with
            | .unknown => d.persistence | .calm => d.persistence.reload | .leaning | .excess => d.persistence.count)
          calm := (match state' with
            | .unknown => d.calm | .calm => d.calm.count | .leaning | .excess => d.calm.reload) } })) ∧
    { t with boundaries := s.boundaries, followers := s.followers, racks := s.racks, link := s.link } = s ∧
    { t.link with events := s.link.events } = s.link

/-- A counter of a rack (R152): what one counting boundary does to its prescale and main values, where it expires and is reloaded at once, and that from a reload it expires at the N × (P + 1)-th counting boundary and not before; with the power-on reloads after 300 and after 600. The flag `standing`, which marks the expiry until its own command takes it, is the model's own choice (log entry 8). -/
def Obligations.CountersRunTheirFullCount : Prop :=
  (∀ c : Counter,
    (0 < c.prescale → c.count = { c with prescale := c.prescale - 1 }) ∧
    (c.prescale = 0 → 2 ≤ c.main → c.count = { c with prescale := c.prescaleReload, main := c.main - 1 }) ∧
    (c.prescale = 0 → c.main = 1 → c.count = { c with main := c.mainReload, prescale := c.prescaleReload, standing := true })) ∧
  (∀ c : Counter, 1 ≤ c.mainReload → c.standing = false →
    (∀ k, k < c.mainReload * (c.prescaleReload + 1) → (Counter.count^[k] c.reload).standing = false ∧ 1 ≤ (Counter.count^[k] c.reload).main) ∧
    Counter.count^[c.mainReload * (c.prescaleReload + 1)] c.reload = { c.reload with standing := true }) ∧
  (∀ p, (State.reset.rack p).drift.persistence.reload = (State.reset.rack p).drift.persistence ∧
    (State.reset.rack p).drift.persistence.mainReload * ((State.reset.rack p).drift.persistence.prescaleReload + 1) = 300 ∧
    (State.reset.rack p).drift.calm.reload = (State.reset.rack p).drift.calm ∧
    (State.reset.rack p).drift.calm.mainReload * ((State.reset.rack p).drift.calm.prescaleReload + 1) = 600)

/-- PERSISTENCE_EXPIRY raises the warning to Watch on a Leaning rack and to Drift on an Excess one where that is above the present level, unacknowledged and with the rack warning event (R153); CALM_EXPIRY lowers it to None (R154); ACK-WARNING acknowledges a Watch or Drift warning (R155). Nothing else changes. That an expiry stands as a flag after its boundary, and that the warning changes in the expiry's own step, is the model's own choice (log entry 8). -/
def Obligations.WarningsRiseFallAndAreAcknowledged : Prop :=
  ∀ (s : State) (p : RackId),
    let d := (s.rack p).drift
    let marked : Link := { s.link with events := { s.link.events with rackWarning := s.link.events.rackWarning ||| (1#12 <<< p.val) } }
    (d.persistence.standing = true →
      let waits : Counter := { d.persistence with standing := false }
      (d.state = .leaning → d.warning = .none → exec (.persistenceExpiry p) s =
        .next { s.setDrift p { d with persistence := waits, warning := .watch, acknowledged := false } with link := marked }) ∧
      (d.state = .excess → d.warning ≠ .drift → exec (.persistenceExpiry p) s =
        .next { s.setDrift p { d with persistence := waits, warning := .drift, acknowledged := false } with link := marked }) ∧
      (d.state = .leaning ∧ d.warning ≠ .none ∨ d.state = .excess ∧ d.warning = .drift ∨ d.state = .calm ∨ d.state = .unknown →
        exec (.persistenceExpiry p) s = .next (s.setDrift p { d with persistence := waits }))) ∧
    (d.calm.standing = true →
      let waits : Counter := { d.calm with standing := false }
      (d.warning = .none → exec (.calmExpiry p) s = .next (s.setDrift p { d with calm := waits })) ∧
      (d.warning ≠ .none → exec (.calmExpiry p) s =
        .next { s.setDrift p { d with calm := waits, warning := .none, acknowledged := false } with link := marked })) ∧
    (∀ b : Byte, s.link.ready = true →
      (11 < b.toNat → exec (.ackWarning b) s = .next (s.answer .range [])) ∧
      (b.toNat = p.val → d.warning = .none → exec (.ackWarning b) s = .next (s.answer .state [])) ∧
      (b.toNat = p.val → d.warning ≠ .none →
        exec (.ackWarning b) s = .next ((s.setDrift p { d with acknowledged := true }).answer .done [])))

/-! ## The Follower Table -/

/-- ENROL (R54, R55): RANGE, then TAKEN, then FULL, otherwise the lowest Vacant index takes the request's values, clamped or by default, due at once; nothing else changes. -/
def Obligations.EnrolWritesLowestVacantRecord : Prop :=
  ∀ (s : State) (port slot : Byte) (o : FollowerOperands), s.link.ready = true →
    let held (f : Follower) : Prop := f.state ≠ .vacant ∧ f.port.val = port.toNat ∧ f.slot.val = slot.toNat
    (11 < port.toNat ∨ 39 < slot.toNat ∨ 1 < o.kind.toNat → exec (.enrol port slot o) s = .next (s.answer .range [0x00])) ∧
    (port.toNat ≤ 11 → slot.toNat ≤ 39 → o.kind.toNat ≤ 1 →
      ((∃ j, held (s.follower j)) → exec (.enrol port slot o) s = .next (s.answer .taken [0x00])) ∧
      ((∀ j, ¬ held (s.follower j)) → (∀ j, (s.follower j).state ≠ .vacant) →
        exec (.enrol port slot o) s = .next (s.answer .full [0x00])) ∧
      (∀ i, (∀ j, ¬ held (s.follower j)) → (s.follower i).state = .vacant → (∀ j < i, (s.follower j).state ≠ .vacant) →
        ∀ (p : RackId) (k : Fin 40), p.val = port.toNat → k.val = slot.toNat →
        exec (.enrol port slot o) s = .next ((s.setFollower i
          { state := .settling, port := p, slot := k, kind := if o.kind = 0x00 then .server else .storage
            periodClass := min o.periodClass.toNat 4
            settleReload := max 1 (min o.reload.toNat 15), settleCount := max 1 (min o.reload.toNat 15)
            wander := if o.wander = 0xFFFF#16 then 800 else min o.wander.toNat 16000
            shift := if o.shift = 0xFF#8 then 2 else min o.shift.toNat 7
            maxAge := if o.maxAge = 0xFFFFFFFF#32 then 100000000 else max 1000000 (min o.maxAge.toNat 2000000000)
            slotA := ⟨false, 0, 0, 0, 0, 0⟩, slotB := ⟨false, 0, 0, 0, 0, 0⟩, selector := .a, rateBase := false
            freshSince := s.row.whole, nextDue := s.row.whole, consecutiveFaults := 0, lastFault := none, goodCount := 0
            faultedCount := 0, holding := false, pendingOrder := none, lastOutcome := none
            notify := ⟨o.flags.getLsbD 0, o.flags.getLsbD 1, o.flags.getLsbD 2⟩, noticed := false }).answer .done
          [BitVec.ofNat 8 i.val])))

/-- AMEND-FOLLOWER (R56): RANGE, then STATE, otherwise each field marked present takes the value given, clamped, a Settling record's count never above its new reload; MUTE and UNMUTE (R57, R59, R68). Every other field of the record and of the part stays. -/
def Obligations.AmendMuteUnmuteWriteTheRecord : Prop :=
  ∀ (s : State) (b : Byte) (i : FollowerId), i.val = b.toNat → s.link.ready = true →
    let f := s.follower i
    (∀ (presence : Byte) (o : FollowerOperands),
      let has (k : Nat) : Bool := presence.getLsbD k
      (has 0 = true → 1 < o.kind.toNat → exec (.amendFollower b presence o) s = .next (s.answer .range [])) ∧
      ((has 0 = true → o.kind.toNat ≤ 1) → f.state = .vacant ∨ f.state = .retiring →
        exec (.amendFollower b presence o) s = .next (s.answer .state [])) ∧
      ((has 0 = true → o.kind.toNat ≤ 1) → f.state ≠ .vacant → f.state ≠ .retiring →
        let reload := if has 2 then max 1 (min o.reload.toNat 15) else f.settleReload
        exec (.amendFollower b presence o) s = .next ((s.setFollower i { f with
          kind := if has 0 then (if o.kind = 0x00 then .server else .storage) else f.kind
          periodClass := if has 1 then min o.periodClass.toNat 4 else f.periodClass
          settleReload := reload
          settleCount := if has 2 ∧ f.state = .settling then min f.settleCount reload else f.settleCount
          wander := if has 3 then min o.wander.toNat 16000 else f.wander
          shift := if has 4 then min o.shift.toNat 7 else f.shift
          maxAge := if has 5 then max 1000000 (min o.maxAge.toNat 2000000000) else f.maxAge
          notify := if has 6 then ⟨o.flags.getLsbD 0, o.flags.getLsbD 1, o.flags.getLsbD 2⟩ else f.notify }).answer .done []))) ∧
    (f.state = .vacant ∨ f.state = .retiring → exec (.mute b) s = .next (s.answer .state [])) ∧
    (f.state ≠ .vacant → f.state ≠ .retiring → exec (.mute b) s = .next ((s.setFollower i { f with state := .muted }).answer .done [])) ∧
    (f.state ≠ .muted → exec (.unmute b) s = .next (s.answer .state [])) ∧
    (f.state = .muted → exec (.unmute b) s = .next ((s.setFollower i { f with
      state := .settling, settleCount := f.settleReload, rateBase := false, freshSince := s.row.whole
      consecutiveFaults := 0, nextDue := s.row.whole }).answer .done []))

/-- RETIRE (R60, R61, R63, R144): STATE for a Vacant record; PENDING for one already Retiring, which changes nothing, and for one whose exchange is in flight, which becomes Retiring; otherwise DONE, and the record is Vacant with power-on values but for the outcome of its last order and its noticed flag, and its fences are gone without notice. -/
def Obligations.RetireVacatesOrWaits : Prop :=
  ∀ (s : State) (b : Byte) (i : FollowerId), i.val = b.toNat → s.link.ready = true →
    let f := s.follower i
    let inFlight : Prop := ∃ x, (s.port f.port).exchange = some x ∧ x.follower = i
    (f.state = .vacant → exec (.retire b) s = .next (s.answer .state [])) ∧
    (f.state = .retiring → exec (.retire b) s = .next (s.answer .pending [])) ∧
    (f.state ≠ .vacant → f.state ≠ .retiring → inFlight →
      exec (.retire b) s = .next ((s.setFollower i { f with state := .retiring }).answer .pending [])) ∧
    (f.state ≠ .vacant → f.state ≠ .retiring → ¬ inFlight →
      ∃ t, exec (.retire b) s = .next t ∧ t.link.response = [0x01] ∧
        t.follower i = { (State.reset.follower i) with
          lastOutcome := (match f.pendingOrder with | some o => some (.cancelled, o.kind) | none => f.lastOutcome)
          noticed := f.noticed || (f.pendingOrder.isSome && f.notify.onOrder) } ∧
        (∀ j, j ≠ i → t.follower j = s.follower j) ∧
        t.fences = { s.fences with list := s.fences.list.filter fun x => x.follower ≠ i } ∧
        t.link.events = { s.link.events with
          followerNotice := s.link.events.followerNotice || (f.pendingOrder.isSome && f.notify.onOrder) } ∧
        { t with followers := s.followers, fences := s.fences, link := s.link } = s)

/-- FIND-FOLLOWER (R71): RANGE for a port above 11 or a slot above 39; otherwise DONE with the index and the state of the non-Vacant record, Retiring included, that holds the pair, and no other record holds it; or NOT-FOUND. Nothing but the response changes. That one record at most answers rests on the pairs being distinct, which is a premise here and an invariant below. -/
def Obligations.FindFollowerAnswersTheOneHolder : Prop :=
  ∀ (s : State) (port slot : Byte), s.link.ready = true →
    let held (f : Follower) : Prop := f.state ≠ .vacant ∧ f.port.val = port.toNat ∧ f.slot.val = slot.toNat
    (11 < port.toNat ∨ 39 < slot.toNat → exec (.findFollower port slot) s = .next (s.answer .range [0x00, 0x00])) ∧
    (port.toNat ≤ 11 → slot.toNat ≤ 39 →
      ((∀ i, ¬ held (s.follower i)) → exec (.findFollower port slot) s = .next (s.answer .notFound [0x00, 0x00])) ∧
      (s.PairsDistinct → ∀ i, held (s.follower i) →
        exec (.findFollower port slot) s = .next (s.answer .done [BitVec.ofNat 8 i.val, (s.follower i).state.code]) ∧
        ∀ j, held (s.follower j) → j = i))

/-- ORDER (R114): RANGE, then STATE, then BUSY, then STATE for a STEP that no valid advice could carry, otherwise the order is pending with no attempts; FIND-NOTICED (R72) returns the lowest noticed record, Vacant ones included, and clears its flag. -/
def Obligations.OrdersArePlacedAndNoticesFound : Prop :=
  ∀ s : State, s.link.ready = true →
    (∀ (b kind : Byte) (i : FollowerId), i.val = b.toNat →
      let f := s.follower i
      (kind.toNat = 0 ∨ 4 < kind.toNat → exec (.order b kind) s = .next (s.answer .range [])) ∧
      (∀ k, OrderKind.ofCode kind = some k →
        (f.state.active = false → exec (.order b kind) s = .next (s.answer .state [])) ∧
        (f.state.active = true → f.pendingOrder.isSome = true → exec (.order b kind) s = .next (s.answer .busy [])) ∧
        (f.state.active = true → f.pendingOrder = none →
          (k = .step ∧ (f.published.valid = false ∨ f.holding = true) → exec (.order b kind) s = .next (s.answer .state [])) ∧
          ((k = .step → f.published.valid = true ∧ f.holding = false) →
            exec (.order b kind) s = .next ((s.setFollower i { f with pendingOrder := some ⟨k, 0⟩ }).answer .done []))))) ∧
    ((∀ i, (s.follower i).noticed = false) → exec .findNoticed s = .next (s.answer .notFound [0x00, 0x00, 0x00, 0x00])) ∧
    (∀ i, (s.follower i).noticed = true → (∀ j < i, (s.follower j).noticed = false) →
      exec .findNoticed s = .next ((s.setFollower i { s.follower i with noticed := false }).answer .done
        ([BitVec.ofNat 8 i.val, (s.follower i).state.code] ++
          (match (s.follower i).lastOutcome with | none => [0x00, 0x00] | some (o, k) => [o.code, k.code]))))

/-! ## The Fence List -/

/-- FENCE_CLEARING clears every Waiting fence whose bound row time less Ur has passed, in every row state but Free (R139); FENCE_EXPIRY voids a Waiting fence that has stood longer than the fence wait maximum (R141); FENCE_DROP removes any other such fence, counts it and raises the event (R142). -/
def Obligations.FencesClearExpireAndDrop : Prop :=
  ∀ s : State,
    let passed (f : Fence) : Prop := f.state = .waiting ∧ s.row.state ≠ .free ∧
      4294967296 * (f.bound + s.row.currentUr) < s.row.fine
    ((∃ f ∈ s.fences.list, passed f) →
      ∃ l, exec .fenceClearing s = .next { s with fences := { s.fences with list := l } } ∧ l.length = s.fences.list.length ∧
        ∀ (k : Nat) (f : Fence), s.fences.list[k]? = some f →
          (passed f → l[k]? = some { f with state := .cleared, lastChange := s.row.whole }) ∧ (¬ passed f → l[k]? = some f)) ∧
    (∀ (k : Fin 64) (f : Fence), s.fences.list[k.val]? = some f →
      4294967296 * (f.lastChange + 1000000000 * s.fences.waitMax) < s.row.fine →
      (f.state = .waiting → exec (.fenceExpiry k) s = .next { s with fences := { s.fences with
        list := s.fences.list.set k.val { f with state := .voidedExpired, lastChange := s.row.whole } } }) ∧
      (f.state ≠ .waiting → exec (.fenceDrop k) s = .next { s with
        fences := { s.fences with list := s.fences.list.eraseIdx k.val, dropped := s.fences.dropped + 1 }
        link := { s.link with events := { s.link.events with fenceDrop := true } } }))

/-- A fence is Cleared only if row time minus Ur exceeded its bound at that instant, outside Free (R139), whatever command or event the step takes. -/
def Obligations.FencesClearOnlyWhenPassed : Prop :=
  ∀ s t : State, step s = .next t → ∀ f ∈ t.fences.list, f.state = .cleared →
    f ∈ s.fences.list ∨
      (s.row.state ≠ .free ∧ 4294967296 * (f.bound + s.row.currentUr) < s.row.fine ∧ f.lastChange = s.row.whole)

/-! ## Trust, estimates and dates -/

/-- A record becomes Trusted in one way only (R65, R88): at the end of a good Reply of its own exchange, with one good exchange still needed, the row Locked or in Holdover and the new offset within the trust offset of the rack. -/
def Obligations.OnlySettledRepliesMakeTrusted : Prop :=
  ∀ s t : State, step s = .next t → ∀ i, (t.follower i).state = .trusted → (s.follower i).state ≠ .trusted →
    ∃ p received rest x, s.pending = .replyReceptionEnd p received :: rest ∧ (s.port p).exchange = some x ∧ x.follower = i ∧
      (s.follower i).state = .settling ∧ (s.follower i).settleCount ≤ 1 ∧
      (s.row.state = .locked ∨ s.row.state = .holdover) ∧
      (t.follower i).settleCount = 0 ∧ (t.follower i).published.valid = true ∧
      (t.follower i).published.theta.natAbs ≤ (s.rack p).trustOffset

/-- A published estimate changes only by a publication (R52, R107, R110): while a record stays non-Vacant its slots and selector stay as they are, faults, epochs, muting and age included, except at the end of the Reply of its own exchange, and then the slot published before stays whole. -/
def Obligations.EstimatesChangeOnlyByPublication : Prop :=
  ∀ s t : State, step s = .next t → ∀ i, (s.follower i).state ≠ .vacant → (t.follower i).state ≠ .vacant →
    ((t.follower i).slotA = (s.follower i).slotA ∧ (t.follower i).slotB = (s.follower i).slotB ∧
      (t.follower i).selector = (s.follower i).selector) ∨
    (∃ p received rest x, s.pending = .replyReceptionEnd p received :: rest ∧ (s.port p).exchange = some x ∧ x.follower = i ∧
      (s.follower i).state.active = true ∧ (t.follower i).published.valid = true ∧
      ((s.follower i).selector = .a ∧ (t.follower i).selector = .b ∧ (t.follower i).slotA = (s.follower i).slotA ∨
       (s.follower i).selector = .b ∧ (t.follower i).selector = .a ∧ (t.follower i).slotB = (s.follower i).slotB))

/-- The answer to a Date ask (R125, R128 to R132): the first check that fails names it; an ask that passes all five is TooUncertain where U_date exceeds the date ceiling, OutOfRange where the interval lies wholly outside row time, and otherwise Dated, an interval whose ends are x − U_date, or 0 where that is below it, and x + U_date, or 2^64 − 1 where that is above it, of at most twice the date ceiling. -/
def Obligations.DateAsksAreAnsweredByTheChecks : Prop :=
  ∀ (state : RowState) (f : Follower) (r : Rack) (t3 capture : Nat),
    let answer := dateAnswer state f r t3 capture
    let age : Int := (t3 : Int) - capture
    let penalty := match r.drift.warning with | .none => 0 | .watch => r.rackPenalty | .drift => 4 * r.rackPenalty
    let u := min (f.published.uPub + growth f.wander age.toNat + penalty) 4294967295
    let x : Int := capture - max (-1099511627775) (min (f.published.theta - f.published.rate * age / 16000000000) 1099511627775)
    (f.kind = .server → answer = .notStorage) ∧
    (f.kind = .storage →
      (state = .warming ∨ state = .acquiring → answer = .notReady) ∧ (state = .free → answer = .free) ∧
      (state = .locked ∨ state = .holdover →
        (f.state ≠ .trusted → answer = .notTrusted) ∧
        (f.state = .trusted → age < 0 → answer = .future) ∧
        (f.state = .trusted → (f.maxAge : Int) < age → answer = .tooOld) ∧
        (f.state = .trusted → 0 ≤ age → age ≤ f.maxAge →
          (r.drift.warning = .drift → r.driftPolicy = .refuse → answer = .rackDrift) ∧
          ((r.drift.warning = .drift → r.driftPolicy = .widen) →
            (r.dateCeiling < u → answer = .tooUncertain) ∧
            (u ≤ r.dateCeiling → x + u < 0 ∨ (18446744073709551615 : Int) < x - u → answer = .outOfRange) ∧
            (u ≤ r.dateCeiling → 0 ≤ x + u → x - u ≤ (18446744073709551615 : Int) →
              ∃ first last : Nat, answer = .dated first last (state == .holdover) (decide (0 < penalty)) ∧
                first ≤ last ∧ last ≤ first + 2 * r.dateCeiling ∧ last ≤ 18446744073709551615 ∧
                (first : Int) = max (x - u) 0 ∧ (last : Int) = min (x + u) 18446744073709551615 ∧
                ∀ y : Nat, y ≤ 18446744073709551615 → (first ≤ y ∧ y ≤ last ↔ x - u ≤ y ∧ (y : Int) ≤ x + u))))))

/-! ## Rack ports and exchanges -/

/-- ANNOUNCE_START sends row time, row state and last step size (R84, R9, R170), ANNOUNCE_END leaves the port Idle (R84); a failed echo of an Announce, an unsolicited frame and the frames and the end of a quiet window (R84, R94, R95, R96), with the fault budget reloaded and reported where a decrement brings it to 0. The model's own: that QUIET_FRAME changes nothing on a port in any activity (log entry 2), that an unsolicited frame is counted in one step (log entry 27), and that a quiet window has run out when elapsed time is at its end (log entry 12). -/
def Obligations.AnnouncesAndIdleFrames : Prop :=
  ∀ (s : State) (p : RackId),
    let q := s.port p
    let spent (q' : Port) : State :=
      if q'.budget ≤ 1 then { s.setPort p { q' with budget := q'.budgetReload, degraded := q'.degraded + 1 } with
        link := { s.link with events := { s.link.events with portDegraded := s.link.events.portDegraded ||| (1#12 <<< p.val) } } }
      else s.setPort p { q' with budget := q'.budget - 1 }
    (q.state = .running → q.activity = .idle → q.pendingAnnounce = true → exec (.announceStart p) s = .next (s.setPort p { q with
      activity := .announcing, pendingAnnounce := false
      transmitting := some ⟨busFrame 0x04 (beBytes 8 s.row.whole ++ [s.row.state.code] ++ beBytes 8 s.row.lastStep), s.elapsed⟩ })) ∧
    (q.activity = .announcing → exec (.announceEnd p) s = .next (s.setPort p { q with activity := .idle, transmitting := none })) ∧
    (q.activity = .announcing → q.exchange = none →
      exec (.echoMismatch p) s = .next (spent { q with activity := .idle, transmitting := none })) ∧
    (q.state = .running → q.activity = .idle →
      exec (.unsolicitedFrame p) s = .next (spent { q with unsolicited := q.unsolicited + 1 })) ∧
    exec (.quietFrame p) s = .next s ∧
    (∀ e, q.activity = .quiet → q.quietEnd = some e → e ≤ s.elapsed →
      exec (.quietWindowEnd p) s = .next (s.setPort p { q with activity := .idle, quietEnd := none }))

/-- EXCHANGE_START (R78 to R81, R115): an Idle Running port with no pending Announce probes, among its due followers, the one of earliest next due and, for the same next due, of lowest slot; its next due advances by one effective period, and by one period from now where that is not after now; the Probe carries slot, sequence, advice and order. The next due is stated where it lies within the range of an instant (log entry 7 beyond it); one count of free values is taken, which is the model's own. -/
def Obligations.SweepProbesEarliestDueFollower : Prop :=
  ∀ (s : State) (p : RackId) (i : FollowerId),
    let q := s.port p
    let f := s.follower i
    let due (g : Follower) : Prop := g.state.active = true ∧ g.port = p ∧ g.nextDue ≤ s.row.whole
    q.state = .running → q.activity = .idle → q.pendingAnnounce = false → due f →
    (∀ j, j ≠ i → due (s.follower j) →
      f.nextDue < (s.follower j).nextDue ∨ (f.nextDue = (s.follower j).nextDue ∧ f.slot < (s.follower j).slot)) →
    let base := 125000000 * 2 ^ f.periodClass
    let period := match (s.rack p).drift.state with
      | .leaning | .excess => max (base / 2) 125000000
      | .unknown | .calm => base
    let next := if f.nextDue + period ≤ s.row.whole then s.row.whole + period else f.nextDue + period
    next ≤ instantMax →
    let valid := f.published.valid && !f.holding
    let order := f.pendingOrder.map (·.kind)
    exec (.exchangeStart p) s = .next ((({ s with choices := s.choices + 1 } : State).setFollower i { f with nextDue := next }).setPort p { q with
      activity := .exchange, sequence := q.sequence + 1
      exchange := some { follower := i, sequence := q.sequence + 1, t1 := s.row.whole, phase := .probe, order := order,
                         windowEnd := none, reply := none, notices := [], carried := [] }
      transmitting := some ⟨busFrame 0x01 ([BitVec.ofNat 8 f.slot.val, q.sequence + 1, if valid then 0x01 else 0x00] ++
        beInt 6 (if valid then f.published.theta else 0) ++ beInt 4 (if valid then f.published.rate else 0) ++
        [match order with | none => 0x00 | some k => k.code]), s.elapsed⟩ })

/-- PROBE_END starts the reply window in force (R81, R85); REPLY_ARRIVAL stops it and stamps the Reply, with the row state and the Ur of that instant (R85, R99). -/
def Obligations.ProbeEndsAndReplyIsStamped : Prop :=
  ∀ (s : State) (p : RackId) (x : Exchange), (s.port p).exchange = some x →
    (x.phase = .probe → exec (.probeEnd p) s = .next (s.setPort p { s.port p with
      exchange := some { x with phase := .awaiting, windowEnd := some (s.elapsed + elapsedNs (1000 * (s.port p).replyWindow)) }
      transmitting := none })) ∧
    (x.phase = .awaiting → x.reply = none → exec (.replyArrival p) s = .next (s.setPort p { s.port p with
      exchange := some { x with
        windowEnd := none
        reply := some { t4 := s.row.whole, rowState := s.row.state
                        ur := (match s.row.state with
                          | .holdover | .free =>
                            min (s.row.entryUr + growth s.row.wander (s.row.whole - s.row.entryTime)) 4294967295
                          | .warming | .acquiring | .locked => s.row.ur) } } }))

/-- An exchange ends in a counted fault (R66, R85, R87, R90, R91, R92, R95, R110, R119): Timeout, Echo of the Probe or of the Verdict, or a Reply that fails a check. The record counts the fault and is Stale at the fault limit, its estimates and rate base stand, its order gains an attempt or is Lost at the third (not at an Echo of the Verdict), the port is Idle and its budget spent; no other record, and neither row nor references, change. A Retiring record becomes Vacant at the end of the exchange, with no attempt added, its pending order Cancelled and its fences gone; the fences of any other stay (R61, R63, R66, R119, R144). That a reply window has run out when elapsed time is at its end is the model's reading (log entry 12). -/
def Obligations.CountedFaultsEndTheExchange : Prop :=
  ∀ (c : Instr) (s : State) (p : RackId) (x : Exchange) (kind : FaultKind) (attempt : Bool), (s.port p).exchange = some x →
    ((c = .replyWindowExpiry p ∧ x.phase = .awaiting ∧ x.reply = none ∧ (∃ e, x.windowEnd = some e ∧ e ≤ s.elapsed) ∧
        kind = .timeout ∧ attempt = true) ∨
      (c = .echoMismatch p ∧ (s.port p).activity = .exchange ∧ kind = .echo ∧
        (x.phase = .probe ∧ attempt = true ∨ x.phase = .verdict ∧ attempt = false)) ∨
      (∃ received capture, c = .replyReceptionEnd p received ∧ x.phase = .awaiting ∧ x.reply = some capture ∧ attempt = true ∧
        (parseReply (BitVec.ofNat 8 (s.follower x.follower).slot.val) x.sequence received = .error kind ∨
          ∃ r, parseReply (BitVec.ofNat 8 (s.follower x.follower).slot.val) x.sequence received = .ok r ∧
            (((r.t3 : Int) - r.t2 < 0 ∨ (capture.t4 : Int) - x.t1 < (r.t3 : Int) - r.t2) ∧ kind = .causality ∨
              0 ≤ (r.t3 : Int) - r.t2 ∧ (r.t3 : Int) - r.t2 ≤ (capture.t4 : Int) - x.t1 ∧
                ((s.port p).delayCeiling : Int) < (((capture.t4 : Int) - x.t1) - ((r.t3 : Int) - r.t2)) / 2 ∧ kind = .delay)))) →
    let i := x.follower
    let f := s.follower i
    let vacant : Follower := { Follower.powerOn with
        lastOutcome := (match f.pendingOrder with | some o => some (.cancelled, o.kind) | none => f.lastOutcome)
        noticed := f.noticed || (f.pendingOrder.isSome && f.notify.onOrder) }
    ∃ t, exec c s = .next t ∧
      (f.state = .retiring → t.follower i = vacant ∧
        t.fences = { s.fences with list := s.fences.list.filter fun h => h.follower != i }) ∧
      (f.state ≠ .retiring → t.fences = s.fences ∧
        let g := t.follower i
        let faults := min 15 (f.consecutiveFaults + 1)
        let stale : Bool := (f.state = .settling ∨ f.state = .trusted) ∧ (s.rack f.port).faultLimit ≤ faults
        let lost : Bool := attempt && x.order.isSome && f.pendingOrder.any fun o => decide (2 ≤ o.attempts)
        g = { f with
          consecutiveFaults := faults, faultedCount := f.faultedCount + 1, lastFault := some kind
          state := if stale then .stale else f.state
          pendingOrder := if lost then none
            else if attempt ∧ x.order.isSome then f.pendingOrder.map fun o => { o with attempts := o.attempts + 1 }
            else f.pendingOrder
          lastOutcome := if lost then f.pendingOrder.map fun o => (.lost, o.kind) else f.lastOutcome
          noticed := f.noticed || (stale && f.notify.onStale) || (lost && f.notify.onOrder) }) ∧
      (∀ j, j ≠ i → t.follower j = s.follower j) ∧
      t.port p = { s.port p with
        activity := .idle, exchange := none, transmitting := none
        budget := if (s.port p).budget ≤ 1 then (s.port p).budgetReload else (s.port p).budget - 1
        degraded := if (s.port p).budget ≤ 1 then (s.port p).degraded + 1 else (s.port p).degraded } ∧
      ((s.port p).budget ≤ 1 → t.link.events.portDegraded.getLsbD p.val = true) ∧
      (∀ p', p' ≠ p → t.rack p' = s.rack p') ∧
      { t with followers := s.followers, racks := s.racks, fences := s.fences, link := s.link } = s ∧
      { t.link with events := s.link.events } = s.link

/-- A Reply that passes every check of R87 publishes a new estimate for a Settling, Trusted or Stale record (R88, R98 to R107): delay, corrected offset, rate and uncertainty by their formulas, into the slot the selector does not name, which it then names; the rate base is valid unless a Done of STEP or RESET-AGENT is taken (R109, R117). -/
def Obligations.GoodReplyPublishesEstimate : Prop :=
  ∀ (s : State) (p : RackId) (x : Exchange) (capture : Capture) (received : List Byte) (r : Reply),
    (s.port p).exchange = some x → x.phase = .awaiting → x.reply = some capture →
    let f := s.follower x.follower
    let trip : Int := (capture.t4 : Int) - x.t1
    let turn : Int := (r.t3 : Int) - r.t2
    let delay := (trip - turn) / 2
    parseReply (BitVec.ofNat 8 f.slot.val) x.sequence received = .ok r → f.state.active = true →
    0 ≤ turn → turn ≤ trip → delay ≤ (s.port p).delayCeiling →
    let raw : Int := (((r.t2 : Int) - x.t1) + ((r.t3 : Int) - capture.t4)) / 2
    let theta := max (-1099511627775) (min (raw - (s.port p).asymmetry) 1099511627775)
    let old := if f.published.valid then f.published.rate else 0
    let rawRate := max (-1600000) (min (16000000000 * (theta - f.published.theta) / ((capture.t4 - f.published.t4 : Nat) : Int)) 1600000)
    let estimate : Estimate :=
      { valid := true, theta := theta, delay := delay.toNat, t4 := capture.t4
        rate := if f.rateBase = true ∧ r.restarted = false ∧ 100000000 + f.published.t4 ≤ capture.t4
          then old + (rawRate - old) / 2 ^ f.shift else old
        uPub := match capture.rowState with
          | .locked | .holdover => min (delay.toNat + (s.port p).baseError + capture.ur) 4294967295
          | .warming | .acquiring | .free => 4294967295 }
    ∃ t, exec (.replyReceptionEnd p received) s = .next t ∧
      (let g := t.follower x.follower;
        (f.selector = .a → g.selector = .b ∧ g.slotB = estimate ∧ g.slotA = f.slotA) ∧
        (f.selector = .b → g.selector = .a ∧ g.slotA = estimate ∧ g.slotB = f.slotB) ∧
        (g.rateBase = true ↔ ¬ ∃ k, r.ack = some (k, .done) ∧ x.order = some k ∧ (k = .step ∨ k = .resetAgent))) ∧
      (∀ j, j ≠ x.follower → t.follower j = s.follower j)

/-- The stage 2 update of a good Reply (R64, R65), where no Done of STEP or RESET-AGENT follows it at stage 3: the good exchange is counted, a Stale record resettles, an offset beyond the trust offset reloads the settle count, and in a Locked or Holdover row any other counts towards Trusted. -/
def Obligations.GoodReplySettlesRecord : Prop :=
  ∀ (s : State) (p : RackId) (x : Exchange) (capture : Capture) (received : List Byte) (r : Reply),
    (s.port p).exchange = some x → x.phase = .awaiting → x.reply = some capture →
    let f := s.follower x.follower
    let trip : Int := (capture.t4 : Int) - x.t1
    let turn : Int := (r.t3 : Int) - r.t2
    parseReply (BitVec.ofNat 8 f.slot.val) x.sequence received = .ok r →
    0 ≤ turn → turn ≤ trip → (trip - turn) / 2 ≤ (s.port p).delayCeiling →
    (∀ k, r.ack = some (k, .done) → x.order = some k → k = .hold ∨ k = .resume) →
    ∃ t, exec (.replyReceptionEnd p received) s = .next t ∧
      let g := t.follower x.follower
      let beyond : Prop := (s.rack p).trustOffset < g.published.theta.natAbs
      (f.state.active = true →
        g.goodCount = f.goodCount + 1 ∧ g.consecutiveFaults = 0 ∧ g.freshSince = capture.t4 ∧ g.lastFault = f.lastFault ∧
        g.faultedCount = f.faultedCount) ∧
      (f.state = .stale ∨ (f.state = .settling ∨ f.state = .trusted) ∧ beyond → g.state = .settling ∧ g.settleCount = f.settleReload) ∧
      (f.state = .trusted → ¬ beyond → g.state = .trusted ∧ g.settleCount = f.settleCount) ∧
      (f.state = .settling → ¬ beyond → s.row.state = .locked ∨ s.row.state = .holdover →
        (f.settleCount ≤ 1 → g.state = .trusted ∧ g.settleCount = 0 ∧
          (f.notify.onTrusted = true → g.noticed = true ∧ t.link.events.followerNotice = true)) ∧
        (2 ≤ f.settleCount → g.state = .settling ∧ g.settleCount = f.settleCount - 1)) ∧
      (f.state = .settling → ¬ beyond → s.row.state ≠ .locked → s.row.state ≠ .holdover →
        g.state = .settling ∧ g.settleCount = f.settleCount) ∧
      (f.state = .muted → g.state = .muted ∧ g.slotA = f.slotA ∧ g.slotB = f.slotB ∧ g.selector = f.selector ∧
        g.goodCount = f.goodCount ∧ g.consecutiveFaults = f.consecutiveFaults ∧ g.freshSince = f.freshSince ∧
        g.settleCount = f.settleCount)

/-- Stage 3 of a good Reply (R116 to R119, R121): an acknowledgement of the carried kind ends the pending order Done or Refused, and a Done acts by its kind; otherwise a carried order gains an attempt, or ends Lost at the third, and the holding report is read, which sets agent holding on a record with no pending order too, with no event and no notice of its own. -/
def Obligations.GoodReplyTakesAcknowledgement : Prop :=
  ∀ (s : State) (p : RackId) (x : Exchange) (capture : Capture) (received : List Byte) (r : Reply),
    (s.port p).exchange = some x → x.phase = .awaiting → x.reply = some capture →
    let f := s.follower x.follower
    let trip : Int := (capture.t4 : Int) - x.t1
    let turn : Int := (r.t3 : Int) - r.t2
    parseReply (BitVec.ofNat 8 f.slot.val) x.sequence received = .ok r → f.state.active = true ∨ f.state = .muted →
    0 ≤ turn → turn ≤ trip → (trip - turn) / 2 ≤ (s.port p).delayCeiling →
    ∃ t, exec (.replyReceptionEnd p received) s = .next t ∧
      let g := t.follower x.follower
      (f.pendingOrder = none → (∀ k result, r.ack = some (k, result) → x.order ≠ some k) →
        g.holding = r.holding ∧ g.pendingOrder = none ∧ g.lastOutcome = f.lastOutcome ∧
        (f.notify.onTrusted = false → g.noticed = f.noticed ∧ t.link = s.link)) ∧
      (∀ o, f.pendingOrder = some o →
        (∀ k result, r.ack = some (k, result) → x.order = some k →
          g.pendingOrder = none ∧ (f.notify.onOrder = true → g.noticed = true ∧ t.link.events.followerNotice = true) ∧
          (result = .refused → g.lastOutcome = some (.refused, o.kind) ∧ g.holding = f.holding) ∧
          (result = .done → g.lastOutcome = some (.done, o.kind) ∧
            g.holding = (match k with | .step => f.holding | .hold => true | .resume => false | .resetAgent => false) ∧
            (k = .step ∨ k = .resetAgent → g.rateBase = false ∧ g.freshSince = s.row.whole ∧
              (f.state.active = true → g.state = .settling ∧ g.settleCount = f.settleReload)))) ∧
        ((∀ k result, r.ack = some (k, result) → x.order ≠ some k) →
          g.holding = r.holding ∧
          (x.order = none →
            (o.kind = .step → r.holding = true → f.holding = false →
              g.pendingOrder = none ∧ g.lastOutcome = some (.cancelled, .step)) ∧
            (o.kind ≠ .step ∨ r.holding = f.holding ∨ r.holding = false → g.pendingOrder = some o)) ∧
          (x.order.isSome = true → 2 ≤ o.attempts → g.pendingOrder = none ∧ g.lastOutcome = some (.lost, o.kind)) ∧
          (x.order.isSome = true → o.attempts < 2 →
            (o.kind = .step → r.holding = true → f.holding = false →
              g.pendingOrder = none ∧ g.lastOutcome = some (.cancelled, .step)) ∧
            (o.kind ≠ .step ∨ r.holding = f.holding ∨ r.holding = false →
              g.pendingOrder = some { o with attempts := o.attempts + 1 }))))

/-- A Fence ask is answered by the first check that decides (R137): NotStorage, NotReady or Free, Clear, Far, Full, otherwise Held. Stages 4 and 5 of a good Reply (R83, R88, R123, R125, R138, R145): the asks of a Settling, Trusted or Stale record are answered in ask order, from the record as stages 2 and 3 leave it: a Date ask by the checks and the interval stated in DateAsksAreAnsweredByTheChecks, a Fence ask by R137 against the list as the asks before it leave it; a Held answer inserts a Waiting fence after every fence whose bound does not exceed its own (R135). A Muted record is answered Withdrawn. The Verdict carries the answers with their tags, then reports the follower's Cleared and Voided fences in list order, at most 6 notices in all, each in the 20 bytes of R170; the exchange is in its Verdict phase with those fences carried, and they stay in the list. Fences that pass the Due test may be Cleared before the Verdict is built (R138; log entry 6 for the choice, and log entry 21 for the serial numbers). A Retiring record gets no Verdict and becomes Vacant (R61, R88). -/
def Obligations.GoodReplyBeginsVerdict : Prop :=
  (∀ (u : State) (f : Follower) (capture : Capture) (bound : Nat),
    let answer := u.fenceAnswer f capture bound
    let passed : Prop := (capture.rowState = .locked ∨ capture.rowState = .holdover ∨ capture.rowState = .acquiring) ∧
      (bound : Int) < (capture.t4 : Int) - capture.ur
    (f.kind = .server → answer = .notStorage) ∧
    (f.kind = .storage →
      (u.row.state = .warming ∨ u.row.state = .acquiring → answer = .notReady) ∧ (u.row.state = .free → answer = .free) ∧
      (u.row.state = .locked ∨ u.row.state = .holdover →
        (passed → answer = .clear) ∧
        (¬ passed →
          (capture.t4 + 1000000000 * u.fences.horizon < bound → answer = .far) ∧
          (bound ≤ capture.t4 + 1000000000 * u.fences.horizon →
            (64 ≤ u.fences.list.length → answer = .full) ∧ (u.fences.list.length < 64 → answer = .held)))))) ∧
  ∀ (s : State) (p : RackId) (x : Exchange) (capture : Capture) (received : List Byte) (r : Reply),
    (s.port p).exchange = some x → x.phase = .awaiting → x.reply = some capture →
    let f := s.follower x.follower
    let trip : Int := (capture.t4 : Int) - x.t1
    let turn : Int := (r.t3 : Int) - r.t2
    parseReply (BitVec.ofNat 8 f.slot.val) x.sequence received = .ok r →
    0 ≤ turn → turn ≤ trip → (trip - turn) / 2 ≤ (s.port p).delayCeiling →
    ∃ t, exec (.replyReceptionEnd p received) s = .next t ∧ t.row = s.row ∧ t.selector = s.selector ∧ t.lines = s.lines ∧
      t.elapsed = s.elapsed ∧ t.boundaries = s.boundaries ∧ (∀ p', p' ≠ p → t.rack p' = s.rack p') ∧
      (∀ j, j ≠ x.follower → t.follower j = s.follower j) ∧
      (f.state.active = true ∨ f.state = .muted →
        ∃ (answers : List Notice) (fences : Nat → FenceList),
          answers.length = r.asks.length ∧ answers.length ≤ 3 ∧ fences 0 = s.fences ∧
          (f.state.active = true → ∀ (k : Nat) (a : Ask), r.asks[k]? = some a →
            let g := t.follower x.follower
            match a with
            | .date tag c => answers[k]? = some (.date tag (dateAnswer s.row.state g (s.rack p) r.t3 c)) ∧ fences (k + 1) = fences k
            | .fence tag bound =>
              let answer := ({ s with fences := fences k } : State).fenceAnswer g capture bound
              answers[k]? = some (.fence tag answer) ∧
              (answer ≠ .held → fences (k + 1) = fences k) ∧
              (answer = .held → fences (k + 1) = { fences k with
                list := ((fences k).list.takeWhile fun h => decide (h.bound ≤ bound)) ++
                  { follower := x.follower, tag := tag, bound := bound, state := .waiting, lastChange := s.row.whole
                    serial := (fences k).nextSerial } ::
                  ((fences k).list.dropWhile fun h => decide (h.bound ≤ bound))
                nextSerial := (fences k).nextSerial + 1 })) ∧
          (f.state = .muted → (∀ k, fences k = s.fences) ∧ ∀ (k : Nat) (a : Ask), r.asks[k]? = some a → answers[k]? = some (match a with
            | .date tag _ => .date tag .withdrawn
            | .fence tag _ => .fence tag .withdrawn)) ∧
          let last := fences r.asks.length
          let passed (h : Fence) : Bool := h.state == .waiting && s.row.state != .free && decide (4294967296 * (h.bound + s.row.currentUr) < s.row.fine)
          let cleared (h : Fence) : Fence := if passed h then { h with state := .cleared, lastChange := s.row.whole } else h
          (t.fences = last ∨ t.fences = { last with list := last.list.map cleared }) ∧
          let reported := (t.fences.list.filter fun g => g.follower == x.follower && g.state != .waiting).take (6 - answers.length)
          let notices := answers ++ reported.map fun g => .fenceState g.tag g.bound g.state
          let code (a : Answer) : Byte := match a with
            | .dated _ _ _ _ => 0x00 | .notStorage => 0x01 | .notReady => 0x02 | .free => 0x03 | .notTrusted => 0x04 | .future => 0x05
            | .tooOld => 0x06 | .rackDrift => 0x07 | .tooUncertain => 0x08 | .outOfRange => 0x09 | .withdrawn => 0x0A
            | .clear => 0x0B | .far => 0x0C | .full => 0x0D | .held => 0x0E
          let flags (a : Answer) : Byte := match a with
            | .dated _ _ holdover widened => BitVec.ofNat 8 (holdover.toNat + 2 * widened.toNat)
            | _ => 0x00
          let values (a : Answer) : List Byte := match a with
            | .dated earliest latest _ _ => beBytes 8 earliest ++ beBytes 8 latest
            | _ => List.replicate 16 0x00
          let noticeBytes (n : Notice) : List Byte := match n with
            | .date tag a => [0x01, tag, code a, flags a] ++ values a
            | .fence tag a => [0x02, tag, code a, flags a] ++ values a
            | .fenceState tag bound st => [0x03, tag, (match st with
                | .waiting => 0x00 | .cleared => 0x10 | .voidedRestart => 0x11 | .voidedExpired => 0x12 : Byte), 0x00] ++
                beBytes 8 bound ++ List.replicate 8 0x00
          let fields : List Byte := [BitVec.ofNat 8 f.slot.val, x.sequence, BitVec.ofNat 8 notices.length] ++ notices.flatMap noticeBytes
          let covered : List Byte := [0x03, BitVec.ofNat 8 fields.length] ++ fields
          t.port p = { s.port p with
            pendingAnnounce := (s.port p).pendingAnnounce || (r.restarted && (s.port p).state == .running)
            exchange := some { x with phase := .verdict, notices := notices, carried := reported.map (·.serial) }
            transmitting := some ⟨[0xA6] ++ covered ++ beBytes 2 (frameCheck covered).toNat, s.elapsed⟩ }) ∧
      (f.state = .retiring → (t.follower x.follower).state = .vacant ∧ (t.port p).exchange = none ∧ (t.port p).activity = .idle ∧
        (t.port p).transmitting = none ∧ ∀ g ∈ t.fences.list, g.follower ≠ x.follower)

/-- VERDICT_END (R89, R144, R146): the fences the Verdict carried leave the list without count or event, the exchange is discarded and the port Idle; a Retiring record then becomes Vacant and its other fences go too. -/
def Obligations.VerdictEndDeliversItsFences : Prop :=
  ∀ (s : State) (p : RackId) (x : Exchange), (s.port p).exchange = some x → x.phase = .verdict →
    let kept := s.fences.list.filter fun f => !x.carried.contains f.serial
    let idle : Port := { s.port p with activity := .idle, exchange := none, transmitting := none }
    ((s.follower x.follower).state ≠ .retiring →
      exec (.verdictEnd p) s = .next (({ s with fences := { s.fences with list := kept } } : State).setPort p idle)) ∧
    ((s.follower x.follower).state = .retiring → ∃ t, exec (.verdictEnd p) s = .next t ∧ t.port p = idle ∧
      (t.follower x.follower).state = .vacant ∧ (t.follower x.follower).pendingOrder = none ∧
      t.fences = { s.fences with list := kept.filter fun f => f.follower ≠ x.follower } ∧
      (∀ j, j ≠ x.follower → t.follower j = s.follower j) ∧
      { t with followers := s.followers, racks := s.racks, fences := s.fences, link := s.link } = s)

/-- TRANSMIT_GUARD_TRIP (R77, R93): a transmission longer than 400 µs halts the port, cuts the frame off and ends an exchange in flight Abandoned, with no fault counted, no attempt and no budget spent; the port halted event is raised for the rack. A Retiring record addressed becomes Vacant (R62). -/
def Obligations.TransmitGuardHaltsThePort : Prop :=
  ∀ (s : State) (p : RackId) (tr : Transmission), (s.port p).transmitting = some tr → tr.start + elapsedNs 400000 < s.elapsed →
    ∃ t, exec (.transmitGuardTrip p) s = .next t ∧
      t.port p = { s.port p with
        state := .halted, activity := .idle, exchange := none, transmitting := none, pendingAnnounce := false, quietEnd := none } ∧
      t.link.events.portHalted = s.link.events.portHalted ||| (1#12 <<< p.val) ∧
      (∀ i, (∀ x, (s.port p).exchange = some x → x.follower = i → (s.follower i).state ≠ .retiring) → t.follower i = s.follower i) ∧
      (∀ x, (s.port p).exchange = some x → (s.follower x.follower).state = .retiring → (t.follower x.follower).state = .vacant) ∧
      ((∀ x, (s.port p).exchange = some x → (s.follower x.follower).state ≠ .retiring) → t.fences = s.fences) ∧
      (∀ p', p' ≠ p → t.rack p' = s.rack p') ∧
      { t with followers := s.followers, racks := s.racks, fences := s.fences, link := s.link } = s

/-- AMEND-RACK in its three rows (R53, R75, R76, R77, R95, R124, R149, R157): RANGE for a rack above 11 or an enumerated field that names no value, and then nothing is written; otherwise every marked field is written clamped, B reloads the budget, drift parameters reload both counters, and enabled opens or closes the port. Other racks, and the row, references and lines, stay. PORT_ENABLE and PORT_DISABLE are the request with enabled marked and 1 or 0; AMEND_RACK_PARAMETERS here has it unmarked, as its row has (the marking of the rows is the model's reading, log entry 10). An exchange that a closing port abandons with a Retiring record makes that record Vacant and removes its fences (R61, R62, R63, R77, R144). The model's own: the clause on an acknowledged warning is for a rack on which no expiry stands (log entry 8), and the numeric fields other than α are read unsigned, lean and excess rate among them (log entry 28). -/
def Obligations.AmendRackWritesItsMarkedFields : Prop :=
  (∀ (s : State) (b : Byte) (presence : BitVec 24) (o : RackOperands), s.link.ready = true → presence.getLsbD 0 = true →
    1 < o.enabled.toNat → exec (.amendRackParameters b presence o) s = .next (s.answer .range [])) ∧
  ∀ (s : State) (b : Byte) (presence : BitVec 24) (o : RackOperands) (c : Instr) (enabled : Option Bool), s.link.ready = true →
    (c = .portEnable b presence o ∧ enabled = some true ∨ c = .portDisable b presence o ∧ enabled = some false ∨
      c = .amendRackParameters b presence o ∧ enabled = none ∧ presence.getLsbD 0 = false) →
    let has (k : Nat) : Bool := presence.getLsbD k
    let drifts : Bool := has 11 || has 12 || has 13 || has 14 || has 15 || has 16 || has 17 || has 18 || has 19
    (11 < b.toNat ∨ has 10 = true ∧ 1 < o.driftPolicy.toNat → exec c s = .next (s.answer .range [])) ∧
    (∀ p : RackId, p.val = b.toNat → (has 10 = true → o.driftPolicy.toNat ≤ 1) →
      ∃ t, exec c s = .next t ∧ t.link.response = [0x01] ∧
        (let r := s.rack p
          let q := r.port
          let t' := t.rack p
          t'.trustOffset = (if has 6 then max 100 (min o.trustOffset.toNat 1000000) else r.trustOffset) ∧
          t'.faultLimit = (if has 7 then max 1 (min o.faultLimit.toNat 15) else r.faultLimit) ∧
          t'.dateCeiling = (if has 8 then max 100 (min o.dateCeiling.toNat 1000000000) else r.dateCeiling) ∧
          t'.rackPenalty = (if has 9 then min o.rackPenalty.toNat 100000000 else r.rackPenalty) ∧
          t'.driftPolicy = (if has 10 then (if o.driftPolicy = 0x00 then .widen else .refuse) else r.driftPolicy) ∧
          t'.port.replyWindow = (if has 1 then max 100 (min o.replyWindow.toNat 4000) else q.replyWindow) ∧
          t'.port.asymmetry = (if has 2 then max (-100000) (min o.asymmetry.toInt 100000) else q.asymmetry) ∧
          t'.port.baseError = (if has 3 then min o.baseError.toNat 100000 else q.baseError) ∧
          t'.port.delayCeiling = (if has 4 then max 100 (min o.delayCeiling.toNat 1000000) else q.delayCeiling) ∧
          t'.port.budgetReload = (if has 5 then max 1 (min o.budgetReload.toNat 255) else q.budgetReload) ∧
          t'.port.budget = (if has 5 then max 1 (min o.budgetReload.toNat 255) else q.budget) ∧
          t'.port.sequence = q.sequence ∧ t'.port.unsolicited = q.unsolicited ∧ t'.port.degraded = q.degraded ∧
          (enabled = none ∨ enabled = some true ∧ q.state = .running → t'.port.state = q.state ∧ t'.port.activity = q.activity ∧
            t'.port.exchange = q.exchange ∧ t'.port.pendingAnnounce = q.pendingAnnounce ∧ t'.port.transmitting = q.transmitting ∧
            t'.port.quietEnd = q.quietEnd) ∧
          (enabled = some true → q.state ≠ .running →
            t'.port.state = .running ∧ t'.port.activity = .idle ∧ t'.port.pendingAnnounce = true) ∧
          (enabled = some false → t'.port.state = .disabled) ∧
          (enabled = some false → q.state = .running → t'.port.activity = .idle ∧ t'.port.exchange = none ∧
            t'.port.transmitting = none ∧ t'.port.pendingAnnounce = false ∧ t'.port.quietEnd = none)) ∧
        (let d := (s.rack p).drift
          let d' := (t.rack p).drift
          let excessRate := if has 13 then max 16 (min o.excessRate.toNat 1600000) else d.excessRate
          let excessOffset := if has 15 then max 100 (min o.excessOffset.toNat 100000000) else d.excessOffset
          (drifts = false → d' = d) ∧
          (drifts = true →
            d'.minMembers = (if has 11 then max 1 (min o.minMembers.toNat 40) else d.minMembers) ∧
            d'.excessRate = excessRate ∧ d'.excessOffset = excessOffset ∧
            d'.leanRate = min (if has 12 then max 16 (min o.leanRate.toNat 1600000) else d.leanRate) excessRate ∧
            d'.leanOffset = min (if has 14 then max 100 (min o.leanOffset.toNat 100000000) else d.leanOffset) excessOffset ∧
            d'.persistence.mainReload = (if has 16 then max 1 (min o.persistMain.toNat 127) else d.persistence.mainReload) ∧
            d'.persistence.prescaleReload = (if has 17 then o.persistPrescale.toNat else d.persistence.prescaleReload) ∧
            d'.calm.mainReload = (if has 18 then max 1 (min o.calmMain.toNat 127) else d.calm.mainReload) ∧
            d'.calm.prescaleReload = (if has 19 then o.calmPrescale.toNat else d.calm.prescaleReload) ∧
            d'.persistence.main = d'.persistence.mainReload ∧ d'.persistence.prescale = d'.persistence.prescaleReload ∧
            d'.calm.main = d'.calm.mainReload ∧ d'.calm.prescale = d'.calm.prescaleReload ∧
            d'.members = d.members ∧ d'.meanRate = d.meanRate ∧ d'.widest = d.widest ∧ d'.state = d.state ∧
            (d.persistence.standing = false → d.calm.standing = false →
              d'.warning = d.warning ∧ d'.acknowledged = d.acknowledged))) ∧
        (∀ p', p' ≠ p → t.rack p' = s.rack p') ∧
        (let q := s.port p
          let gone (i : FollowerId) : Bool := enabled == some false && q.state == .running && (s.follower i).state == .retiring &&
            q.exchange.any fun x => x.follower == i
          let vacant (f : Follower) : Follower := { Follower.powerOn with
        lastOutcome := (match f.pendingOrder with | some o => some (.cancelled, o.kind) | none => f.lastOutcome)
        noticed := f.noticed || (f.pendingOrder.isSome && f.notify.onOrder) }
          (∀ i, t.follower i = if gone i then vacant (s.follower i) else s.follower i) ∧
          t.fences = { s.fences with list := s.fences.list.filter fun f => !gone f.follower }) ∧
        { t with followers := s.followers, racks := s.racks, fences := s.fences, link := s.link } = s)

/-! ## The Management Link -/

/-- AMEND-ROW (R12, R13, R136): the marked fields are written clamped, the sanity limit not below the step limit; a new Ur limit below Ur takes Locked to Acquiring and Holdover to Free; a new H in Holdover and Free first rebases, so Ur does not move; a new fence wait maximum acts at once on every fence. The model's readings: a marked H rebases even where it equals the one in force, Ur is compared only where the request marks the Ur limit, and the fences are swept inside the request (log entry 16). -/
def Obligations.AmendRowActsAtOnce : Prop :=
  ∀ (s : State) (presence : Byte) (o : RowOperands), s.link.ready = true →
    let has (k : Nat) : Bool := presence.getLsbD k
    let row := s.row
    let stepLimit := if has 0 then max 1000 (min o.stepLimit.toNat 1000000) else row.stepLimit
    let urLimit := if has 2 then max 100 (min o.urLimit.toNat 100000000) else row.urLimit
    let rebased : Bool := has 4 && (row.state == .holdover || row.state == .free)
    let waitMax := if has 6 then max 1 (min o.waitMax.toNat 300) else s.fences.waitMax
    let late (f : Fence) : Bool := decide (4294967296 * (f.lastChange + 1000000000 * waitMax) < row.fine)
    let swept := s.fences.list.filterMap fun f =>
      if late f then (if f.state = .waiting then some { f with state := .voidedExpired, lastChange := row.whole } else none) else some f
    ∃ t, exec (.amendRow presence o) s = .next t ∧ t.link.response = [0x01] ∧
      t.row = { row with
        stepLimit := stepLimit
        sanityLimit := max (if has 1 then max 1000 (min o.sanityLimit.toNat 100000000) else row.sanityLimit) stepLimit
        urLimit := urLimit
        gain := if has 3 then max 2 (min o.gain.toNat 10) else row.gain
        wander := if has 4 then min o.wander.toNat 160000 else row.wander
        entryUr := if rebased then row.currentUr else row.entryUr
        entryTime := if rebased then row.whole else row.entryTime
        state := if has 2 ∧ urLimit < row.currentUr ∧ row.state = .locked then .acquiring
          else if has 2 ∧ urLimit < row.currentUr ∧ row.state = .holdover then .free else row.state } ∧
      t.row.currentUr = row.currentUr ∧
      (t.row.state ≠ row.state → t.link.events.rowStateChanged = true) ∧
      t.fences = { s.fences with
        horizon := if has 5 then max 1 (min o.horizon.toNat 60) else s.fences.horizon
        waitMax := waitMax
        list := if has 6 then swept else s.fences.list
        dropped := if has 6 then s.fences.dropped + BitVec.ofNat 16 (s.fences.list.length - swept.length) else s.fences.dropped } ∧
      (has 6 = true → swept.length < s.fences.list.length → t.link.events.fenceDrop = true) ∧
      { t with row := row, fences := s.fences, link := s.link } = s

/-- READ-EVENTS returns the flags, maps and mask and clears every flag (R163, R164); SET-EVENT-MASK writes the mask, and MATN is asserted exactly while a flag of an unmasked event is set, a map counting as set while any of its bits is (R165); SET-LINE writes a line's configuration, RANGE where an operand names nothing, and the line follows its new function from that instant (R166); each of the nine functions of R167 asserts its line while its condition holds, and the line is high while asserted under active high or inactive under active low; IDENTIFY is answered at every instant (R168, R174), an unknown code UNKNOWN and a frame cut short not at all (R159). The model's own: a set mask bit masks, rack n stands at bit n, the unused high bits read 0 and the maps come in the order of R163 (log entries 13, 29 and 32), a cut frame leaves the response empty and MCS high (log entry 14), and the Second pulse condition is the field of its two steps (log entry 15). -/
def Obligations.LinkAndLineRequestsAct : Prop :=
  ∀ s : State,
    (s.link.ready = true → exec .readEvents s = .next (({ s with link := { s.link with
        events := ⟨false, false, false, false, 0, 0, 0, false, false⟩ } } : State).answer .done
      (beBytes 2 s.link.events.word.toNat ++ beBytes 2 s.link.events.rackWarning.toNat ++ beBytes 2 s.link.events.portDegraded.toNat ++
        beBytes 2 s.link.events.portHalted.toNat ++ beBytes 2 s.link.mask.toNat))) ∧
    (∀ mask, s.link.ready = true →
      exec (.setEventMask mask) s = .next (({ s with link := { s.link with mask := mask.setWidth 9 } } : State).answer .done [])) ∧
    (let e := s.link.events
      let open' (k : Nat) : Prop := s.link.mask.getLsbD k = false
      s.attention = true ↔
        (e.rowStateChanged = true ∧ open' 0) ∨ (e.rowStepped = true ∧ open' 1) ∨ (e.referenceSwitched = true ∧ open' 2) ∨
        (e.referenceFaulted = true ∧ open' 3) ∨ (e.rackWarning ≠ 0 ∧ open' 4) ∨ (e.portDegraded ≠ 0 ∧ open' 5) ∨
        (e.portHalted ≠ 0 ∧ open' 6) ∨ (e.followerNotice = true ∧ open' 7) ∨ (e.fenceDrop = true ∧ open' 8)) ∧
    (∀ line function polarity rack level : Byte, s.link.ready = true →
      (3 < line.toNat ∨ 8 < function.toNat ∨ 1 < polarity.toNat ∨ 11 < rack.toNat ∨ 1 < level.toNat →
        exec (.setLine line function polarity rack level) s = .next (s.answer .range [])) ∧
      (∀ (w : Fin 4) (p : RackId) (g : LineFunction), line.toNat = w.val → rack.toNat = p.val →
        [LineFunction.level, .anyWarning, .anyDrift, .oneRack, .notLocked, .holdover, .secondPulse, .fenceBacklog, .portHalted][function.toNat]? = some g →
        polarity.toNat ≤ 1 → level.toNat ≤ 1 →
        ∃ t, exec (.setLine line function polarity rack level) s = .next t ∧
          t = ({ s with lines := s.lines.set w ⟨g, polarity == 0x00, p, level == 0x01⟩ } : State).answer .done [] ∧
          (g = .level → t.lineHigh w = ((level == 0x01) == (polarity == 0x00))))) ∧
    (∀ w : Fin 4,
      let l := s.lines[w]
      let warned (p : RackId) : Prop := ((s.rack p).drift.warning = .watch ∨ (s.rack p).drift.warning = .drift) ∧
        (s.rack p).drift.acknowledged = false
      let asserted : Prop := match l.function with
        | .level => l.level = true
        | .anyWarning => ∃ p, warned p
        | .anyDrift => ∃ p, (s.rack p).drift.warning = .drift ∧ (s.rack p).drift.acknowledged = false
        | .oneRack => warned l.rack
        | .notLocked => s.row.state = .warming ∨ s.row.state = .acquiring ∨ s.row.state = .holdover ∨ s.row.state = .free
        | .holdover => s.row.state = .holdover ∨ s.row.state = .free
        | .secondPulse => s.pulseWindow = true
        | .fenceBacklog => 48 ≤ s.fences.list.length
        | .portHalted => ∃ p, (s.port p).state = .halted
      (s.lineHigh w = true ↔ (asserted ↔ l.activeHigh = true))) ∧
    exec .identify s = .next (s.answer .done [0x5A, 0x12, 0x56, 0x01]) ∧
    (∀ code, exec (.unknownRequest code) s = .next (s.answer .unknown [])) ∧
    (∀ clocked, exec (.managementFrameAbort clocked) s = .next { s with link := { s.link with response := [], frame := .closed } })

/-- The read requests (R33, R49, R73, R97, R147, R158, R169, R174, R175): each is answered DONE with a snapshot of the record it names, field by field in the order and the widths of R175, most significant byte first and signed fields in two's complement, of the length that the widths sum to, and changes no state; RANGE and NOT-FOUND as their rules say, with zero result bytes. -/
def Obligations.ReadsReturnTheirRecords : Prop :=
  (∀ n v k : Nat, (beBytes n v).length = n ∧ (k < n → (beBytes n v)[k]? = some (BitVec.ofNat 8 (v / 256 ^ (n - 1 - k))))) ∧
  (∀ (n : Nat) (z : Int), beInt n z = beBytes n (z % 256 ^ n).toNat) ∧
  ∀ s : State, s.link.ready = true →
    let yes (b : Bool) : List Byte := [if b then 0x01 else 0x00]
    let orderCode (k : OrderKind) : Byte := match k with | .step => 0x01 | .hold => 0x02 | .resume => 0x03 | .resetAgent => 0x04
    (∀ (b : Byte) (i : FollowerId), i.val = b.toNat →
      let f := s.follower i
      let slot (e : Estimate) : List Byte :=
        yes e.valid ++ beInt 6 e.theta ++ beInt 4 e.rate ++ beBytes 4 e.delay ++ beBytes 4 e.uPub ++ beBytes 8 e.t4
      let fields : List Byte :=
        [(match f.state with
          | .vacant => 0x00 | .settling => 0x01 | .trusted => 0x02 | .stale => 0x03 | .muted => 0x04 | .retiring => 0x05 : Byte),
          BitVec.ofNat 8 f.port.val, BitVec.ofNat 8 f.slot.val, (match f.kind with | .server => 0x00 | .storage => 0x01 : Byte)] ++
        beBytes 1 f.periodClass ++ beBytes 1 f.settleReload ++ beBytes 1 f.settleCount ++ beBytes 2 f.wander ++ beBytes 1 f.shift ++
        beBytes 4 f.maxAge ++ slot f.slotA ++ slot f.slotB ++ [(match f.selector with | .a => 0x00 | .b => 0x01 : Byte)] ++
        yes f.rateBase ++ beBytes 8 f.freshSince ++ beBytes 8 f.nextDue ++ beBytes 1 f.consecutiveFaults ++
        [(match f.lastFault with
          | none => 0x00 | some .check => 0x01 | some .stray => 0x02 | some .overrun => 0x03 | some .causality => 0x04
          | some .delay => 0x05 | some .timeout => 0x06 | some .echo => 0x07 : Byte)] ++
        beBytes 2 f.goodCount.toNat ++ beBytes 2 f.faultedCount.toNat ++ yes f.holding ++
        (match f.pendingOrder with | none => [0x00, 0x00] | some o => orderCode o.kind :: beBytes 1 o.attempts) ++
        (match f.lastOutcome with
          | none => [0x00, 0x00]
          | some (how, k) => [(match how with | .done => 0x01 | .refused => 0x02 | .lost => 0x03 | .cancelled => 0x04 : Byte), orderCode k]) ++
        beBytes 1 (f.notify.onTrusted.toNat + 2 * f.notify.onStale.toNat + 4 * f.notify.onOrder.toNat) ++ yes f.noticed
      exec (.readFollower b) s = .next (s.answer .done fields) ∧ fields.length = 99) ∧
    (∀ b : Byte, (11 < b.toNat → exec (.readRack b) s = .next (s.answer .range (List.replicate 78 0x00))) ∧
      ∀ p : RackId, p.val = b.toNat →
        let r := s.rack p
        let q := r.port
        let d := r.drift
        let portFields : List Byte :=
          [(match q.state with | .disabled => 0x00 | .running => 0x01 | .halted => 0x02 : Byte),
            (match q.activity with | .idle => 0x00 | .announcing => 0x01 | .exchange => 0x02 | .quiet => 0x03 : Byte), q.sequence] ++
          yes q.pendingAnnounce ++
          (match q.exchange with
            | none => [0x00, 0x00]
            | some x => [(match x.phase with | .probe => 0x01 | .awaiting => 0x02 | .verdict => 0x03 : Byte), BitVec.ofNat 8 x.follower.val]) ++
          beBytes 1 q.budget ++ [q.unsolicited, q.degraded]
        let rackFields : List Byte :=
          [(match q.state with | .disabled => 0x00 | .running => 0x01 | .halted => 0x01 : Byte)] ++ beBytes 2 q.replyWindow ++
          beInt 4 q.asymmetry ++ beBytes 4 q.baseError ++ beBytes 4 q.delayCeiling ++ beBytes 1 q.budgetReload ++
          beBytes 4 r.trustOffset ++ beBytes 1 r.faultLimit ++ beBytes 4 r.dateCeiling ++ beBytes 4 r.rackPenalty ++
          [(match r.driftPolicy with | .widen => 0x00 | .refuse => 0x01 : Byte)] ++ beBytes 1 d.minMembers ++ beBytes 4 d.leanRate ++
          beBytes 4 d.excessRate ++ beBytes 4 d.leanOffset ++ beBytes 4 d.excessOffset ++ beBytes 1 d.persistence.mainReload ++
          beBytes 1 d.persistence.prescaleReload ++ beBytes 1 d.calm.mainReload ++ beBytes 1 d.calm.prescaleReload
        let driftFields : List Byte :=
          beBytes 1 d.members ++ beInt 4 d.meanRate ++ beBytes 6 d.widest ++
          [(match d.state with | .unknown => 0x00 | .calm => 0x01 | .leaning => 0x02 | .excess => 0x03 : Byte)] ++
          beBytes 1 d.persistence.main ++ beBytes 1 d.persistence.prescale ++ beBytes 1 d.calm.main ++ beBytes 1 d.calm.prescale ++
          [(match d.warning with | .none => 0x00 | .watch => 0x01 | .drift => 0x02 : Byte)] ++ yes d.acknowledged
        exec (.readRack b) s = .next (s.answer .done (portFields ++ rackFields ++ driftFields)) ∧
          portFields.length = 9 ∧ rackFields.length = 51 ∧ driftFields.length = 18) ∧
    (let row := s.row
      let ur := match row.state with
        | .holdover | .free => min (row.entryUr + growth row.wander (row.whole - row.entryTime)) 4294967295
        | .warming | .acquiring | .locked => row.ur
      let fields : List Byte :=
        beBytes 8 row.whole ++
        [(match row.state with | .warming => 0x00 | .acquiring => 0x01 | .locked => 0x02 | .holdover => 0x03 | .free => 0x04 : Byte)] ++
        yes row.rowSet ++ beInt 4 row.y ++ beInt 4 row.s ++ beBytes 4 ur ++ beBytes 8 row.lastStep ++ beBytes 8 row.entryTime ++
        beBytes 4 row.stepLimit ++ beBytes 4 row.sanityLimit ++ beBytes 4 row.urLimit ++ beBytes 1 row.gain ++ beBytes 4 row.wander ++
        beBytes 1 s.fences.horizon ++ beBytes 2 s.fences.waitMax
      exec .readRow s = .next (s.answer .done fields) ∧ fields.length = 58) ∧
    (∀ b : Byte, (3 < b.toNat → exec (.readReference b) s = .next (s.answer .range (List.replicate 45 0x00))) ∧
      ∀ r : Reference, (match r with | .hallA => 0 | .hallB => 1 | .neighbour => 2 | .pulse => 3) = b.toNat →
        let v := s.ref r
        let fields : List Byte :=
          [(match v.state with | .absent => 0x00 | .qualifying => 0x01 | .usable => 0x02 | .faulted => 0x03 : Byte)] ++
          beBytes 1 v.qualifyCount ++ beBytes 8 v.lastLabel ++ beBytes 8 v.lastArrival ++ beBytes 4 v.lastU ++ beBytes 1 v.rejects ++
          beInt 9 v.lastError ++ beBytes 4 v.compensation ++ beBytes 4 v.ceiling ++ beBytes 4 (if r = .pulse then v.fixedU else 0) ++
          beBytes 1 ((if s.selector.selected = r then 1 else 0) + (if s.selector.backup = some r then 2 else 0) +
            (if s.selector.inUse = some r then 4 else 0))
        exec (.readReference b) s = .next (s.answer .done fields) ∧ fields.length = 45) ∧
    (∀ b : Byte,
      let counts := beBytes 1 s.fences.list.length ++ beBytes 2 s.fences.dropped.toNat
      (63 < b.toNat → exec (.readFence b) s = .next (s.answer .range (List.replicate 23 0x00))) ∧
      (b.toNat ≤ 63 → s.fences.list.length ≤ b.toNat →
        exec (.readFence b) s = .next (s.answer .notFound (counts ++ List.replicate 20 0x00))) ∧
      (∀ f, b.toNat ≤ 63 → s.fences.list[b.toNat]? = some f →
        exec (.readFence b) s = .next (s.answer .done (counts ++ ([BitVec.ofNat 8 f.follower.val, f.tag] ++ beBytes 8 f.bound ++
          [(match f.state with | .waiting => 0x00 | .cleared => 0x01 | .voidedRestart => 0x02 | .voidedExpired => 0x03 : Byte)] ++
          beBytes 8 f.lastChange ++ [0x00])))))

/-- A request that is refused changes no state, whatever it is and whatever the refusal, the response and the link's place in its frame apart; and the read requests change none when they are taken either (R161, R162). -/
def Obligations.RefusedAndReadRequestsChangeNothing : Prop :=
  ∀ (c : Instr) (bytes : List Byte) (s t : State), requestBytes c = some bytes → exec c s = .next t →
    ((∃ code rest, t.link.response = code :: rest ∧ code ≠ 0x01 ∧ code ≠ 0x02) ∨ c = .readRow ∨ (∃ b, c = .readReference b) ∨
      (∃ b, c = .readFollower b) ∨ (∃ b b', c = .findFollower b b') ∨ (∃ b, c = .readRack b) ∨ (∃ b, c = .readFence b) ∨ c = .identify) →
    { t with link := { t.link with response := s.link.response, frame := s.link.frame } } = s

/-- During the start-up interval every known request other than IDENTIFY is answered NOT-READY with zero result bytes, and changes no state (R160, R161). -/
def Obligations.StartUpIntervalAnswersNotReady : Prop :=
  ∀ (c : Instr) (bytes : List Byte) (s : State), s.link.ready = false → requestBytes c = some bytes →
    c ≠ .identify → (∀ code, c ≠ .unknownRequest code) → (∀ clocked, c ≠ .managementFrameAbort clocked) →
    ∃ n, exec c s = .next { s with link := { s.link with response := 0x09 :: List.replicate n 0x00, frame := .taken 0 } }

/-- An event flag, once raised, stands until READ-EVENTS returns it: no other command clears a flag or a rack bit, POWER_ON_RESET apart; the mask is written by SET-EVENT-MASK alone (R163, R164, R165). -/
def Obligations.EventFlagsStandUntilRead : Prop :=
  ∀ (c : Instr) (s t : State), exec c s = .next t → c ≠ .powerOnReset →
    (c ≠ .readEvents →
      (s.link.events.rowStateChanged = true → t.link.events.rowStateChanged = true) ∧
      (s.link.events.rowStepped = true → t.link.events.rowStepped = true) ∧
      (s.link.events.referenceSwitched = true → t.link.events.referenceSwitched = true) ∧
      (s.link.events.referenceFaulted = true → t.link.events.referenceFaulted = true) ∧
      (s.link.events.followerNotice = true → t.link.events.followerNotice = true) ∧
      (s.link.events.fenceDrop = true → t.link.events.fenceDrop = true) ∧
      (∀ k, s.link.events.rackWarning.getLsbD k = true → t.link.events.rackWarning.getLsbD k = true) ∧
      (∀ k, s.link.events.portDegraded.getLsbD k = true → t.link.events.portDegraded.getLsbD k = true) ∧
      (∀ k, s.link.events.portHalted.getLsbD k = true → t.link.events.portHalted.getLsbD k = true)) ∧
    ((∀ m, c ≠ .setEventMask m) → t.link.mask = s.link.mask)

/-! ## Frames -/

/-- The bytes of every request spell that request again (R159, R169, R174, R176), the enabled field of AMEND-RACK naming its row, which is the model's reading (log entry 10); bytes after the last operand are ignored, and a frame cut anywhere before it is discarded (R159). On the wires: a frame begins at a fall of MCS where MCS was high; the byte that completes a request takes it, and an earlier one takes none; later bytes shift the response; MCS rising ends the frame, discards a request not yet taken and loses the rest of a response; and while the link waits for MCS to rise no byte counts. MDO carries zero bytes until the request has taken effect, then the response from its first byte, then zero bytes (R159). That a request command leaves its own frame with nothing shifted yet, and an abort leaves MCS high, is the model's reading (log entry 14). -/
def Obligations.RequestFramesRoundTrip : Prop :=
  (∀ (c : Instr) (bytes : List Byte), c.wf = true → requestBytes c = some bytes →
    frameCommand bytes = c ∧
    ((∀ clocked, c ≠ .managementFrameAbort clocked) →
      (∀ extra, frameCommand (bytes ++ extra) = c) ∧
      (∀ n, n < bytes.length → frameCommand (bytes.take n) = .managementFrameAbort (bytes.take n)) ∧
      (∀ s t : State, exec c s = .next t → t.link.frame = .taken 0) ∧
      (∀ (s : State) (clocked : List Byte) (b : Byte), s.link.frame = .receiving clocked →
        (clocked ++ [b] = bytes → s.linkEvent (.byte b) = exec c s) ∧
        ∀ n, n < bytes.length → clocked ++ [b] = bytes.take n →
          s.linkEvent (.byte b) = .next { s with link := { s.link with frame := .receiving (clocked ++ [b]) } }))) ∧
  ∀ s : State,
    s.linkEvent .select = .next (if s.link.frame = .closed then { s with link := { s.link with frame := .receiving [] } } else s) ∧
    s.linkEvent .deselect = .next { s with link := { s.link with response := [], frame := .closed } } ∧
    (∀ b, s.link.frame = .closed ∨ s.link.frame = .awaitRise → s.linkEvent (.byte b) = .next s) ∧
    (∀ b n, s.link.frame = .taken n → s.linkEvent (.byte b) = .next { s with link := { s.link with frame := .taken (n + 1) } }) ∧
    (∀ clocked, s.link.frame = .receiving clocked → s.mdo = some 0x00) ∧
    (∀ n, s.link.frame = .taken n → (∀ h : n < s.link.response.length, s.mdo = some s.link.response[n]) ∧
      (s.link.response.length ≤ n → s.mdo = some 0x00))

/-- A Reply as an agent sends it is read back field by field, whatever its readings, flags, acknowledgement and asks, and a mark frame likewise (R82, R169, R170, R172); a Reply to another slot or sequence is Stray (R87), one with a byte after its check Overrun (R171), and a mark frame with a byte more is not a mark frame (R173). -/
def Obligations.ReplyAndMarkFramesRoundTrip : Prop :=
  (∀ (slot sequence : Byte) (r : Reply), r.t2 < 2 ^ 64 → r.t3 < 2 ^ 64 → r.asks.length ≤ 3 →
    (∀ a ∈ r.asks, match a with | .date _ c => c < 2 ^ 64 | .fence _ l => l < 2 ^ 64) →
    parseReply slot sequence (replyBytes slot sequence r) = .ok r ∧
    (∀ b, parseReply slot sequence (replyBytes slot sequence r ++ [b]) = .error .overrun) ∧
    (∀ slot' sequence', slot' ≠ slot ∨ sequence' ≠ sequence →
      parseReply slot' sequence' (replyBytes slot sequence r) = .error .stray)) ∧
  (∀ m : MarkFields, m.label < 2 ^ 64 → m.declaredU < 2 ^ 32 →
    parseMark (markBytes m) = some m ∧ ∀ b, parseMark (markBytes m ++ [b]) = none)

/-! ## Invariants that every step keeps -/

/-- Row time, the rates, the uncertainties and the row parameters stay in range, and the row state agrees with the record: in Warming s and y are 0, Ur is U_MAX and the row is not set; a Locked row is set and its Ur does not exceed the Ur limit; in Holdover and Free s is y (R1, R5, R11, R12, R15, R16, R21, R26). -/
def Obligations.RowRecordStaysSound : Prop := ∀ s t : State, s.RowHolds → step s = .next t → t.RowHolds

/-- Selected and backup stay different, the in-use reference is Usable with fewer than three rejects and absent in Warming, a reference that could be designated is, and each qualify count agrees with its state (R34, R35, R44, R45, R46). -/
def Obligations.DesignationsStaySound : Prop := ∀ s t : State, s.SelectorHolds → step s = .next t → t.SelectorHolds

/-- Every Trusted record has settle count 0 and a published estimate, every Settling record a count between 1 and its reload, a valid rate base a valid slot beneath it, an order fewer than three attempts, a pending STEP valid advice (R51, R52, R65, R104, R113, R114). -/
def Obligations.FollowerRecordsStaySound : Prop := ∀ s t : State, s.FollowersSound → step s = .next t → t.FollowersSound

/-- No two non-Vacant records share a port and slot (R54). -/
def Obligations.PortAndSlotPairsStayDistinct : Prop := ∀ s t : State, s.PairsDistinct → step s = .next t → t.PairsDistinct

/-- Offsets, rates, delays and uncertainties of every estimate slot stay in their ranges (R3, R5, R100, R105). -/
def Obligations.EstimatesStayInRange : Prop := ∀ s t : State, s.EstimatesHold → step s = .next t → t.EstimatesHold

/-- The Fence List holds at most 64 fences in non-decreasing order of bound, and every fence names a non-Vacant follower (R135, R144); the model's serial numbers stay distinct (log entry 21). -/
def Obligations.FenceListStaysOrdered : Prop := ∀ s t : State, s.FencesHold → step s = .next t → t.FencesHold

/-- Port state, activity, exchange, windows and driver agree with one another, an exchange addresses a non-Vacant follower of its own port, a Retiring record has its exchange in flight, and the fault budget counter never rests at 0 (R60, R61, R74, R76, R78, R85, R91, R95). -/
def Obligations.PortsStaySound : Prop := ∀ s t : State, s.PortsHold → step s = .next t → t.PortsHold

/-- No acknowledged flag stands on a warning of None, lean limits do not exceed excess limits, and no counter rests at a main value of 0 (R148, R149, R152, R154). -/
def Obligations.DriftFieldsStaySound : Prop := ∀ s t : State, s.DriftHolds → step s = .next t → t.DriftHolds

/-- The state right after reset meets every invariant above. -/
def Obligations.ResetMeetsEveryInvariant : Prop :=
  State.reset.RowHolds ∧ State.reset.SelectorHolds ∧ State.reset.FollowersSound ∧ State.reset.PairsDistinct ∧
  State.reset.EstimatesHold ∧ State.reset.FencesHold ∧ State.reset.PortsHold ∧ State.reset.DriftHolds
end

