-- ==== Sys2Proof/Laws/Arith.lean ====
section
/-! SUPPORT. What the named roundings, clamps and byte fields of Chapters 1 and 12 satisfy. -/

namespace Sys2Proof.Machine

/-! ## Rounding and clamping (R4, R6) -/

/-- The ceil of R6 is the least natural number that covers the quotient. -/
theorem ceilDiv_le_iff {a b n : Nat} (hb : 0 < b) : ceilDiv a b ≤ n ↔ a ≤ b * n := by
  unfold ceilDiv
  rw [← Nat.lt_add_one_iff, Nat.div_lt_iff_lt_mul hb, Nat.add_one_mul, Nat.mul_comm n b]
  omega

/-- Growth never falls as time passes. -/
theorem growth_mono {w d e : Nat} (h : d ≤ e) : growth w d ≤ growth w e := by
  unfold growth ceilDiv
  exact Nat.div_le_div_right (Nat.add_le_add_left (Nat.mul_le_mul_left w h) _)

@[simp] theorem growth_zero_right (w : Nat) : growth w 0 = 0 := by
  simp [growth, ceilDiv, ruScale]

theorem clampMag_le (m v : Int) (hm : 0 ≤ m) : -m ≤ clampMag m v ∧ clampMag m v ≤ m := by
  unfold clampMag clampInt; omega

/-- A clamp leaves a value in range as it is. -/
theorem clampMag_of_inRange {m v : Int} (h : -m ≤ v) (h' : v ≤ m) : clampMag m v = v := by
  unfold clampMag clampInt; omega

theorem clampNat_bounds {lo hi : Nat} (v : Nat) (h : lo ≤ hi) : lo ≤ clampNat lo hi v ∧ clampNat lo hi v ≤ hi := by
  unfold clampNat; omega

theorem saturateU_le (v : Nat) : saturateU v ≤ uMax := Nat.min_le_right _ _

/-! ## Bytes (R169) -/

@[simp] theorem beBytes_length (n v : Nat) : (beBytes n v).length = n := by
  induction n with
  | zero => rfl
  | succ n ih => exact congrArg (· + 1) ih

@[simp] theorem beInt_length (n : Nat) (v : Int) : (beInt n v).length = n := beBytes_length _ _

/-- Reading on from a number already read. -/
theorem beFold_eq (bytes : List Byte) (acc : Nat) :
    bytes.foldl (fun acc b => 256 * acc + b.toNat) acc = 256 ^ bytes.length * acc + beNat bytes := by
  induction bytes generalizing acc with
  | nil => simp [beNat]
  | cons b rest ih =>
    simp only [beNat, List.foldl_cons, List.length_cons] at ih ⊢
    rw [ih, ih (256 * 0 + b.toNat)]
    ring

theorem beNat_cons (b : Byte) (rest : List Byte) : beNat (b :: rest) = 256 ^ rest.length * b.toNat + beNat rest := by
  rw [beNat, List.foldl_cons, beFold_eq]; simp

/-- The bytes of a number spell it back, up to their width. -/
theorem beNat_beBytes_mod (n v : Nat) : beNat (beBytes n v) = v % 256 ^ n := by
  induction n with
  | zero => simp [beBytes, beNat, Nat.mod_one]
  | succ n ih =>
    have h256 : (2 : Nat) ^ 8 = 256 := rfl
    have hv : v % 256 ^ (n + 1) = v % 256 ^ n + 256 ^ n * (v / 256 ^ n % 256) := by rw [pow_succ]; exact Nat.mod_mul
    rw [beBytes, beNat_cons, ih, beBytes_length, BitVec.toNat_ofNat, h256, hv, Nat.add_comm]

theorem beNat_beBytes {n v : Nat} (h : v < 256 ^ n) : beNat (beBytes n v) = v := by
  rw [beNat_beBytes_mod, Nat.mod_eq_of_lt h]

@[simp] theorem checkBytes_length (covered : List Byte) : (checkBytes covered).length = 2 := beBytes_length _ _

end Sys2Proof.Machine
end

