-- ==== Sys2Proof/Laws/State.lean ====
section
/-! SUPPORT. One lemma per field and per update of the state, so that no later proof unfolds a record update; and reading back the entry of a table that an update wrote. -/

namespace Sys2Proof.Machine

variable (s : State)

/-! ## `State.setFollower` -/

@[simp] theorem State.setFollower_elapsed (i : FollowerId) (f : Follower) : (s.setFollower i f).elapsed = s.elapsed := rfl
@[simp] theorem State.setFollower_row (i : FollowerId) (f : Follower) : (s.setFollower i f).row = s.row := rfl
@[simp] theorem State.setFollower_selector (i : FollowerId) (f : Follower) : (s.setFollower i f).selector = s.selector := rfl
@[simp] theorem State.setFollower_followers (i : FollowerId) (f : Follower) : (s.setFollower i f).followers = s.followers.set i f := rfl
@[simp] theorem State.setFollower_racks (i : FollowerId) (f : Follower) : (s.setFollower i f).racks = s.racks := rfl
@[simp] theorem State.setFollower_fences (i : FollowerId) (f : Follower) : (s.setFollower i f).fences = s.fences := rfl
@[simp] theorem State.setFollower_link (i : FollowerId) (f : Follower) : (s.setFollower i f).link = s.link := rfl
@[simp] theorem State.setFollower_lines (i : FollowerId) (f : Follower) : (s.setFollower i f).lines = s.lines := rfl
@[simp] theorem State.setFollower_pulseWindow (i : FollowerId) (f : Follower) : (s.setFollower i f).pulseWindow = s.pulseWindow := rfl
@[simp] theorem State.setFollower_boundaries (i : FollowerId) (f : Follower) : (s.setFollower i f).boundaries = s.boundaries := rfl
@[simp] theorem State.setFollower_choices (i : FollowerId) (f : Follower) : (s.setFollower i f).choices = s.choices := rfl
@[simp] theorem State.setFollower_pending (i : FollowerId) (f : Follower) : (s.setFollower i f).pending = s.pending := rfl
@[simp] theorem State.setFollower_wires (i : FollowerId) (f : Follower) : (s.setFollower i f).wires = s.wires := rfl
@[simp] theorem State.setFollower_rack (i : FollowerId) (f : Follower) (k : RackId) : (s.setFollower i f).rack k = s.rack k := rfl
@[simp] theorem State.setFollower_port (i : FollowerId) (f : Follower) (k : RackId) : (s.setFollower i f).port k = s.port k := rfl
@[simp] theorem State.setFollower_ref (i : FollowerId) (f : Follower) (x : Reference) : (s.setFollower i f).ref x = s.ref x := rfl
@[simp] theorem State.setFollower_usable (i : FollowerId) (f : Follower) (x : Reference) : (s.setFollower i f).usable x = s.usable x := rfl
@[simp] theorem State.setFollower_now (i : FollowerId) (f : Follower) : (s.setFollower i f).now = s.now := rfl

/-! ## `State.setRack` -/

@[simp] theorem State.setRack_elapsed (p : RackId) (r : Rack) : (s.setRack p r).elapsed = s.elapsed := rfl
@[simp] theorem State.setRack_row (p : RackId) (r : Rack) : (s.setRack p r).row = s.row := rfl
@[simp] theorem State.setRack_selector (p : RackId) (r : Rack) : (s.setRack p r).selector = s.selector := rfl
@[simp] theorem State.setRack_followers (p : RackId) (r : Rack) : (s.setRack p r).followers = s.followers := rfl
@[simp] theorem State.setRack_racks (p : RackId) (r : Rack) : (s.setRack p r).racks = s.racks.set p r := rfl
@[simp] theorem State.setRack_fences (p : RackId) (r : Rack) : (s.setRack p r).fences = s.fences := rfl
@[simp] theorem State.setRack_link (p : RackId) (r : Rack) : (s.setRack p r).link = s.link := rfl
@[simp] theorem State.setRack_lines (p : RackId) (r : Rack) : (s.setRack p r).lines = s.lines := rfl
@[simp] theorem State.setRack_pulseWindow (p : RackId) (r : Rack) : (s.setRack p r).pulseWindow = s.pulseWindow := rfl
@[simp] theorem State.setRack_boundaries (p : RackId) (r : Rack) : (s.setRack p r).boundaries = s.boundaries := rfl
@[simp] theorem State.setRack_choices (p : RackId) (r : Rack) : (s.setRack p r).choices = s.choices := rfl
@[simp] theorem State.setRack_pending (p : RackId) (r : Rack) : (s.setRack p r).pending = s.pending := rfl
@[simp] theorem State.setRack_wires (p : RackId) (r : Rack) : (s.setRack p r).wires = s.wires := rfl
@[simp] theorem State.setRack_follower (p : RackId) (r : Rack) (j : FollowerId) : (s.setRack p r).follower j = s.follower j := rfl
@[simp] theorem State.setRack_ref (p : RackId) (r : Rack) (x : Reference) : (s.setRack p r).ref x = s.ref x := rfl
@[simp] theorem State.setRack_usable (p : RackId) (r : Rack) (x : Reference) : (s.setRack p r).usable x = s.usable x := rfl
@[simp] theorem State.setRack_now (p : RackId) (r : Rack) : (s.setRack p r).now = s.now := rfl

/-! ## `State.setPort` -/

@[simp] theorem State.setPort_elapsed (p : RackId) (q : Port) : (s.setPort p q).elapsed = s.elapsed := rfl
@[simp] theorem State.setPort_row (p : RackId) (q : Port) : (s.setPort p q).row = s.row := rfl
@[simp] theorem State.setPort_selector (p : RackId) (q : Port) : (s.setPort p q).selector = s.selector := rfl
@[simp] theorem State.setPort_followers (p : RackId) (q : Port) : (s.setPort p q).followers = s.followers := rfl
@[simp] theorem State.setPort_racks (p : RackId) (q : Port) : (s.setPort p q).racks = s.racks.set p { s.rack p with port := q } := rfl
@[simp] theorem State.setPort_fences (p : RackId) (q : Port) : (s.setPort p q).fences = s.fences := rfl
@[simp] theorem State.setPort_link (p : RackId) (q : Port) : (s.setPort p q).link = s.link := rfl
@[simp] theorem State.setPort_lines (p : RackId) (q : Port) : (s.setPort p q).lines = s.lines := rfl
@[simp] theorem State.setPort_pulseWindow (p : RackId) (q : Port) : (s.setPort p q).pulseWindow = s.pulseWindow := rfl
@[simp] theorem State.setPort_boundaries (p : RackId) (q : Port) : (s.setPort p q).boundaries = s.boundaries := rfl
@[simp] theorem State.setPort_choices (p : RackId) (q : Port) : (s.setPort p q).choices = s.choices := rfl
@[simp] theorem State.setPort_pending (p : RackId) (q : Port) : (s.setPort p q).pending = s.pending := rfl
@[simp] theorem State.setPort_wires (p : RackId) (q : Port) : (s.setPort p q).wires = s.wires := rfl
@[simp] theorem State.setPort_follower (p : RackId) (q : Port) (j : FollowerId) : (s.setPort p q).follower j = s.follower j := rfl
@[simp] theorem State.setPort_ref (p : RackId) (q : Port) (x : Reference) : (s.setPort p q).ref x = s.ref x := rfl
@[simp] theorem State.setPort_usable (p : RackId) (q : Port) (x : Reference) : (s.setPort p q).usable x = s.usable x := rfl
@[simp] theorem State.setPort_now (p : RackId) (q : Port) : (s.setPort p q).now = s.now := rfl

/-! ## `State.setDrift` -/

@[simp] theorem State.setDrift_elapsed (p : RackId) (d : Drift) : (s.setDrift p d).elapsed = s.elapsed := rfl
@[simp] theorem State.setDrift_row (p : RackId) (d : Drift) : (s.setDrift p d).row = s.row := rfl
@[simp] theorem State.setDrift_selector (p : RackId) (d : Drift) : (s.setDrift p d).selector = s.selector := rfl
@[simp] theorem State.setDrift_followers (p : RackId) (d : Drift) : (s.setDrift p d).followers = s.followers := rfl
@[simp] theorem State.setDrift_racks (p : RackId) (d : Drift) : (s.setDrift p d).racks = s.racks.set p { s.rack p with drift := d } := rfl
@[simp] theorem State.setDrift_fences (p : RackId) (d : Drift) : (s.setDrift p d).fences = s.fences := rfl
@[simp] theorem State.setDrift_link (p : RackId) (d : Drift) : (s.setDrift p d).link = s.link := rfl
@[simp] theorem State.setDrift_lines (p : RackId) (d : Drift) : (s.setDrift p d).lines = s.lines := rfl
@[simp] theorem State.setDrift_pulseWindow (p : RackId) (d : Drift) : (s.setDrift p d).pulseWindow = s.pulseWindow := rfl
@[simp] theorem State.setDrift_boundaries (p : RackId) (d : Drift) : (s.setDrift p d).boundaries = s.boundaries := rfl
@[simp] theorem State.setDrift_choices (p : RackId) (d : Drift) : (s.setDrift p d).choices = s.choices := rfl
@[simp] theorem State.setDrift_pending (p : RackId) (d : Drift) : (s.setDrift p d).pending = s.pending := rfl
@[simp] theorem State.setDrift_wires (p : RackId) (d : Drift) : (s.setDrift p d).wires = s.wires := rfl
@[simp] theorem State.setDrift_follower (p : RackId) (d : Drift) (j : FollowerId) : (s.setDrift p d).follower j = s.follower j := rfl
@[simp] theorem State.setDrift_ref (p : RackId) (d : Drift) (x : Reference) : (s.setDrift p d).ref x = s.ref x := rfl
@[simp] theorem State.setDrift_usable (p : RackId) (d : Drift) (x : Reference) : (s.setDrift p d).usable x = s.usable x := rfl
@[simp] theorem State.setDrift_now (p : RackId) (d : Drift) : (s.setDrift p d).now = s.now := rfl

/-! ## `State.setRef` -/

@[simp] theorem State.setRef_elapsed (r : Reference) (v : RefRecord) : (s.setRef r v).elapsed = s.elapsed := rfl
@[simp] theorem State.setRef_row (r : Reference) (v : RefRecord) : (s.setRef r v).row = s.row := rfl
@[simp] theorem State.setRef_selector (r : Reference) (v : RefRecord) : (s.setRef r v).selector = s.selector.setRef r v := rfl
@[simp] theorem State.setRef_followers (r : Reference) (v : RefRecord) : (s.setRef r v).followers = s.followers := rfl
@[simp] theorem State.setRef_racks (r : Reference) (v : RefRecord) : (s.setRef r v).racks = s.racks := rfl
@[simp] theorem State.setRef_fences (r : Reference) (v : RefRecord) : (s.setRef r v).fences = s.fences := rfl
@[simp] theorem State.setRef_link (r : Reference) (v : RefRecord) : (s.setRef r v).link = s.link := rfl
@[simp] theorem State.setRef_lines (r : Reference) (v : RefRecord) : (s.setRef r v).lines = s.lines := rfl
@[simp] theorem State.setRef_pulseWindow (r : Reference) (v : RefRecord) : (s.setRef r v).pulseWindow = s.pulseWindow := rfl
@[simp] theorem State.setRef_boundaries (r : Reference) (v : RefRecord) : (s.setRef r v).boundaries = s.boundaries := rfl
@[simp] theorem State.setRef_choices (r : Reference) (v : RefRecord) : (s.setRef r v).choices = s.choices := rfl
@[simp] theorem State.setRef_pending (r : Reference) (v : RefRecord) : (s.setRef r v).pending = s.pending := rfl
@[simp] theorem State.setRef_wires (r : Reference) (v : RefRecord) : (s.setRef r v).wires = s.wires := rfl
@[simp] theorem State.setRef_follower (r : Reference) (v : RefRecord) (j : FollowerId) : (s.setRef r v).follower j = s.follower j := rfl
@[simp] theorem State.setRef_rack (r : Reference) (v : RefRecord) (k : RackId) : (s.setRef r v).rack k = s.rack k := rfl
@[simp] theorem State.setRef_port (r : Reference) (v : RefRecord) (k : RackId) : (s.setRef r v).port k = s.port k := rfl
@[simp] theorem State.setRef_now (r : Reference) (v : RefRecord) : (s.setRef r v).now = s.now := rfl

/-! ## `State.raise` -/

@[simp] theorem State.raise_elapsed (e : Event) : (s.raise e).elapsed = s.elapsed := rfl
@[simp] theorem State.raise_row (e : Event) : (s.raise e).row = s.row := rfl
@[simp] theorem State.raise_selector (e : Event) : (s.raise e).selector = s.selector := rfl
@[simp] theorem State.raise_followers (e : Event) : (s.raise e).followers = s.followers := rfl
@[simp] theorem State.raise_racks (e : Event) : (s.raise e).racks = s.racks := rfl
@[simp] theorem State.raise_fences (e : Event) : (s.raise e).fences = s.fences := rfl
@[simp] theorem State.raise_link (e : Event) : (s.raise e).link = { s.link with events := s.link.events.raise e } := rfl
@[simp] theorem State.raise_lines (e : Event) : (s.raise e).lines = s.lines := rfl
@[simp] theorem State.raise_pulseWindow (e : Event) : (s.raise e).pulseWindow = s.pulseWindow := rfl
@[simp] theorem State.raise_boundaries (e : Event) : (s.raise e).boundaries = s.boundaries := rfl
@[simp] theorem State.raise_choices (e : Event) : (s.raise e).choices = s.choices := rfl
@[simp] theorem State.raise_pending (e : Event) : (s.raise e).pending = s.pending := rfl
@[simp] theorem State.raise_wires (e : Event) : (s.raise e).wires = s.wires := rfl
@[simp] theorem State.raise_follower (e : Event) (j : FollowerId) : (s.raise e).follower j = s.follower j := rfl
@[simp] theorem State.raise_rack (e : Event) (k : RackId) : (s.raise e).rack k = s.rack k := rfl
@[simp] theorem State.raise_port (e : Event) (k : RackId) : (s.raise e).port k = s.port k := rfl
@[simp] theorem State.raise_ref (e : Event) (x : Reference) : (s.raise e).ref x = s.ref x := rfl
@[simp] theorem State.raise_usable (e : Event) (x : Reference) : (s.raise e).usable x = s.usable x := rfl
@[simp] theorem State.raise_now (e : Event) : (s.raise e).now = s.now := rfl

/-! ## `State.raiseRack` -/

@[simp] theorem State.raiseRack_elapsed (p : RackId) (e : RackEvent) : (s.raiseRack p e).elapsed = s.elapsed := rfl
@[simp] theorem State.raiseRack_row (p : RackId) (e : RackEvent) : (s.raiseRack p e).row = s.row := rfl
@[simp] theorem State.raiseRack_selector (p : RackId) (e : RackEvent) : (s.raiseRack p e).selector = s.selector := rfl
@[simp] theorem State.raiseRack_followers (p : RackId) (e : RackEvent) : (s.raiseRack p e).followers = s.followers := rfl
@[simp] theorem State.raiseRack_racks (p : RackId) (e : RackEvent) : (s.raiseRack p e).racks = s.racks := rfl
@[simp] theorem State.raiseRack_fences (p : RackId) (e : RackEvent) : (s.raiseRack p e).fences = s.fences := rfl
@[simp] theorem State.raiseRack_link (p : RackId) (e : RackEvent) : (s.raiseRack p e).link = { s.link with events := s.link.events.raiseRack p e } := rfl
@[simp] theorem State.raiseRack_lines (p : RackId) (e : RackEvent) : (s.raiseRack p e).lines = s.lines := rfl
@[simp] theorem State.raiseRack_pulseWindow (p : RackId) (e : RackEvent) : (s.raiseRack p e).pulseWindow = s.pulseWindow := rfl
@[simp] theorem State.raiseRack_boundaries (p : RackId) (e : RackEvent) : (s.raiseRack p e).boundaries = s.boundaries := rfl
@[simp] theorem State.raiseRack_choices (p : RackId) (e : RackEvent) : (s.raiseRack p e).choices = s.choices := rfl
@[simp] theorem State.raiseRack_pending (p : RackId) (e : RackEvent) : (s.raiseRack p e).pending = s.pending := rfl
@[simp] theorem State.raiseRack_wires (p : RackId) (e : RackEvent) : (s.raiseRack p e).wires = s.wires := rfl
@[simp] theorem State.raiseRack_follower (p : RackId) (e : RackEvent) (j : FollowerId) : (s.raiseRack p e).follower j = s.follower j := rfl
@[simp] theorem State.raiseRack_rack (p : RackId) (e : RackEvent) (k : RackId) : (s.raiseRack p e).rack k = s.rack k := rfl
@[simp] theorem State.raiseRack_port (p : RackId) (e : RackEvent) (k : RackId) : (s.raiseRack p e).port k = s.port k := rfl
@[simp] theorem State.raiseRack_ref (p : RackId) (e : RackEvent) (x : Reference) : (s.raiseRack p e).ref x = s.ref x := rfl
@[simp] theorem State.raiseRack_usable (p : RackId) (e : RackEvent) (x : Reference) : (s.raiseRack p e).usable x = s.usable x := rfl
@[simp] theorem State.raiseRack_now (p : RackId) (e : RackEvent) : (s.raiseRack p e).now = s.now := rfl

/-! ## `State.choose` -/

@[simp] theorem State.choose_elapsed : (s.choose).elapsed = s.elapsed := rfl
@[simp] theorem State.choose_row : (s.choose).row = s.row := rfl
@[simp] theorem State.choose_selector : (s.choose).selector = s.selector := rfl
@[simp] theorem State.choose_followers : (s.choose).followers = s.followers := rfl
@[simp] theorem State.choose_racks : (s.choose).racks = s.racks := rfl
@[simp] theorem State.choose_fences : (s.choose).fences = s.fences := rfl
@[simp] theorem State.choose_link : (s.choose).link = s.link := rfl
@[simp] theorem State.choose_lines : (s.choose).lines = s.lines := rfl
@[simp] theorem State.choose_pulseWindow : (s.choose).pulseWindow = s.pulseWindow := rfl
@[simp] theorem State.choose_boundaries : (s.choose).boundaries = s.boundaries := rfl
@[simp] theorem State.choose_choices : (s.choose).choices = s.choices + 1 := rfl
@[simp] theorem State.choose_pending : (s.choose).pending = s.pending := rfl
@[simp] theorem State.choose_wires : (s.choose).wires = s.wires := rfl
@[simp] theorem State.choose_follower (j : FollowerId) : (s.choose).follower j = s.follower j := rfl
@[simp] theorem State.choose_rack (k : RackId) : (s.choose).rack k = s.rack k := rfl
@[simp] theorem State.choose_port (k : RackId) : (s.choose).port k = s.port k := rfl
@[simp] theorem State.choose_ref (x : Reference) : (s.choose).ref x = s.ref x := rfl
@[simp] theorem State.choose_usable (x : Reference) : (s.choose).usable x = s.usable x := rfl
@[simp] theorem State.choose_now : (s.choose).now = s.now := rfl

/-! ## `State.answer` -/

@[simp] theorem State.answer_elapsed (o : Outcome) (l : List Byte) : (s.answer o l).elapsed = s.elapsed := rfl
@[simp] theorem State.answer_row (o : Outcome) (l : List Byte) : (s.answer o l).row = s.row := rfl
@[simp] theorem State.answer_selector (o : Outcome) (l : List Byte) : (s.answer o l).selector = s.selector := rfl
@[simp] theorem State.answer_followers (o : Outcome) (l : List Byte) : (s.answer o l).followers = s.followers := rfl
@[simp] theorem State.answer_racks (o : Outcome) (l : List Byte) : (s.answer o l).racks = s.racks := rfl
@[simp] theorem State.answer_fences (o : Outcome) (l : List Byte) : (s.answer o l).fences = s.fences := rfl
@[simp] theorem State.answer_link (o : Outcome) (l : List Byte) : (s.answer o l).link = { s.link with response := o.code :: l, frame := .taken 0 } := rfl
@[simp] theorem State.answer_lines (o : Outcome) (l : List Byte) : (s.answer o l).lines = s.lines := rfl
@[simp] theorem State.answer_pulseWindow (o : Outcome) (l : List Byte) : (s.answer o l).pulseWindow = s.pulseWindow := rfl
@[simp] theorem State.answer_boundaries (o : Outcome) (l : List Byte) : (s.answer o l).boundaries = s.boundaries := rfl
@[simp] theorem State.answer_choices (o : Outcome) (l : List Byte) : (s.answer o l).choices = s.choices := rfl
@[simp] theorem State.answer_pending (o : Outcome) (l : List Byte) : (s.answer o l).pending = s.pending := rfl
@[simp] theorem State.answer_wires (o : Outcome) (l : List Byte) : (s.answer o l).wires = s.wires := rfl
@[simp] theorem State.answer_follower (o : Outcome) (l : List Byte) (j : FollowerId) : (s.answer o l).follower j = s.follower j := rfl
@[simp] theorem State.answer_rack (o : Outcome) (l : List Byte) (k : RackId) : (s.answer o l).rack k = s.rack k := rfl
@[simp] theorem State.answer_port (o : Outcome) (l : List Byte) (k : RackId) : (s.answer o l).port k = s.port k := rfl
@[simp] theorem State.answer_ref (o : Outcome) (l : List Byte) (x : Reference) : (s.answer o l).ref x = s.ref x := rfl
@[simp] theorem State.answer_usable (o : Outcome) (l : List Byte) (x : Reference) : (s.answer o l).usable x = s.usable x := rfl
@[simp] theorem State.answer_now (o : Outcome) (l : List Byte) : (s.answer o l).now = s.now := rfl

/-! ## `State.refuse` -/

@[simp] theorem State.refuse_elapsed (o : Outcome) (n : Nat) : (s.refuse o n).elapsed = s.elapsed := rfl
@[simp] theorem State.refuse_row (o : Outcome) (n : Nat) : (s.refuse o n).row = s.row := rfl
@[simp] theorem State.refuse_selector (o : Outcome) (n : Nat) : (s.refuse o n).selector = s.selector := rfl
@[simp] theorem State.refuse_followers (o : Outcome) (n : Nat) : (s.refuse o n).followers = s.followers := rfl
@[simp] theorem State.refuse_racks (o : Outcome) (n : Nat) : (s.refuse o n).racks = s.racks := rfl
@[simp] theorem State.refuse_fences (o : Outcome) (n : Nat) : (s.refuse o n).fences = s.fences := rfl
@[simp] theorem State.refuse_link (o : Outcome) (n : Nat) : (s.refuse o n).link = { s.link with response := o.code :: List.replicate n 0, frame := .taken 0 } := rfl
@[simp] theorem State.refuse_lines (o : Outcome) (n : Nat) : (s.refuse o n).lines = s.lines := rfl
@[simp] theorem State.refuse_pulseWindow (o : Outcome) (n : Nat) : (s.refuse o n).pulseWindow = s.pulseWindow := rfl
@[simp] theorem State.refuse_boundaries (o : Outcome) (n : Nat) : (s.refuse o n).boundaries = s.boundaries := rfl
@[simp] theorem State.refuse_choices (o : Outcome) (n : Nat) : (s.refuse o n).choices = s.choices := rfl
@[simp] theorem State.refuse_pending (o : Outcome) (n : Nat) : (s.refuse o n).pending = s.pending := rfl
@[simp] theorem State.refuse_wires (o : Outcome) (n : Nat) : (s.refuse o n).wires = s.wires := rfl
@[simp] theorem State.refuse_follower (o : Outcome) (n : Nat) (j : FollowerId) : (s.refuse o n).follower j = s.follower j := rfl
@[simp] theorem State.refuse_rack (o : Outcome) (n : Nat) (k : RackId) : (s.refuse o n).rack k = s.rack k := rfl
@[simp] theorem State.refuse_port (o : Outcome) (n : Nat) (k : RackId) : (s.refuse o n).port k = s.port k := rfl
@[simp] theorem State.refuse_ref (o : Outcome) (n : Nat) (x : Reference) : (s.refuse o n).ref x = s.ref x := rfl
@[simp] theorem State.refuse_usable (o : Outcome) (n : Nat) (x : Reference) : (s.refuse o n).usable x = s.usable x := rfl
@[simp] theorem State.refuse_now (o : Outcome) (n : Nat) : (s.refuse o n).now = s.now := rfl

/-! ## `State.setFrame` -/

@[simp] theorem State.setFrame_elapsed (f : LinkFrame) : (s.setFrame f).elapsed = s.elapsed := rfl
@[simp] theorem State.setFrame_row (f : LinkFrame) : (s.setFrame f).row = s.row := rfl
@[simp] theorem State.setFrame_selector (f : LinkFrame) : (s.setFrame f).selector = s.selector := rfl
@[simp] theorem State.setFrame_followers (f : LinkFrame) : (s.setFrame f).followers = s.followers := rfl
@[simp] theorem State.setFrame_racks (f : LinkFrame) : (s.setFrame f).racks = s.racks := rfl
@[simp] theorem State.setFrame_fences (f : LinkFrame) : (s.setFrame f).fences = s.fences := rfl
@[simp] theorem State.setFrame_link (f : LinkFrame) : (s.setFrame f).link = { s.link with frame := f } := rfl
@[simp] theorem State.setFrame_lines (f : LinkFrame) : (s.setFrame f).lines = s.lines := rfl
@[simp] theorem State.setFrame_pulseWindow (f : LinkFrame) : (s.setFrame f).pulseWindow = s.pulseWindow := rfl
@[simp] theorem State.setFrame_boundaries (f : LinkFrame) : (s.setFrame f).boundaries = s.boundaries := rfl
@[simp] theorem State.setFrame_choices (f : LinkFrame) : (s.setFrame f).choices = s.choices := rfl
@[simp] theorem State.setFrame_pending (f : LinkFrame) : (s.setFrame f).pending = s.pending := rfl
@[simp] theorem State.setFrame_wires (f : LinkFrame) : (s.setFrame f).wires = s.wires := rfl
@[simp] theorem State.setFrame_follower (f : LinkFrame) (j : FollowerId) : (s.setFrame f).follower j = s.follower j := rfl
@[simp] theorem State.setFrame_rack (f : LinkFrame) (k : RackId) : (s.setFrame f).rack k = s.rack k := rfl
@[simp] theorem State.setFrame_port (f : LinkFrame) (k : RackId) : (s.setFrame f).port k = s.port k := rfl
@[simp] theorem State.setFrame_ref (f : LinkFrame) (x : Reference) : (s.setFrame f).ref x = s.ref x := rfl
@[simp] theorem State.setFrame_usable (f : LinkFrame) (x : Reference) : (s.setFrame f).usable x = s.usable x := rfl
@[simp] theorem State.setFrame_now (f : LinkFrame) : (s.setFrame f).now = s.now := rfl

/-! ## `State.endFrame` -/

@[simp] theorem State.endFrame_elapsed : (s.endFrame).elapsed = s.elapsed := rfl
@[simp] theorem State.endFrame_row : (s.endFrame).row = s.row := rfl
@[simp] theorem State.endFrame_selector : (s.endFrame).selector = s.selector := rfl
@[simp] theorem State.endFrame_followers : (s.endFrame).followers = s.followers := rfl
@[simp] theorem State.endFrame_racks : (s.endFrame).racks = s.racks := rfl
@[simp] theorem State.endFrame_fences : (s.endFrame).fences = s.fences := rfl
@[simp] theorem State.endFrame_link : (s.endFrame).link = { s.link with response := [], frame := .closed } := rfl
@[simp] theorem State.endFrame_lines : (s.endFrame).lines = s.lines := rfl
@[simp] theorem State.endFrame_pulseWindow : (s.endFrame).pulseWindow = s.pulseWindow := rfl
@[simp] theorem State.endFrame_boundaries : (s.endFrame).boundaries = s.boundaries := rfl
@[simp] theorem State.endFrame_choices : (s.endFrame).choices = s.choices := rfl
@[simp] theorem State.endFrame_pending : (s.endFrame).pending = s.pending := rfl
@[simp] theorem State.endFrame_wires : (s.endFrame).wires = s.wires := rfl
@[simp] theorem State.endFrame_follower (j : FollowerId) : (s.endFrame).follower j = s.follower j := rfl
@[simp] theorem State.endFrame_rack (k : RackId) : (s.endFrame).rack k = s.rack k := rfl
@[simp] theorem State.endFrame_port (k : RackId) : (s.endFrame).port k = s.port k := rfl
@[simp] theorem State.endFrame_ref (x : Reference) : (s.endFrame).ref x = s.ref x := rfl
@[simp] theorem State.endFrame_usable (x : Reference) : (s.endFrame).usable x = s.usable x := rfl
@[simp] theorem State.endFrame_now : (s.endFrame).now = s.now := rfl

/-! ## `State.setFences` -/

@[simp] theorem State.setFences_elapsed (l : List Fence) : (s.setFences l).elapsed = s.elapsed := rfl
@[simp] theorem State.setFences_row (l : List Fence) : (s.setFences l).row = s.row := rfl
@[simp] theorem State.setFences_selector (l : List Fence) : (s.setFences l).selector = s.selector := rfl
@[simp] theorem State.setFences_followers (l : List Fence) : (s.setFences l).followers = s.followers := rfl
@[simp] theorem State.setFences_racks (l : List Fence) : (s.setFences l).racks = s.racks := rfl
@[simp] theorem State.setFences_fences (l : List Fence) : (s.setFences l).fences = { s.fences with list := l } := rfl
@[simp] theorem State.setFences_link (l : List Fence) : (s.setFences l).link = s.link := rfl
@[simp] theorem State.setFences_lines (l : List Fence) : (s.setFences l).lines = s.lines := rfl
@[simp] theorem State.setFences_pulseWindow (l : List Fence) : (s.setFences l).pulseWindow = s.pulseWindow := rfl
@[simp] theorem State.setFences_boundaries (l : List Fence) : (s.setFences l).boundaries = s.boundaries := rfl
@[simp] theorem State.setFences_choices (l : List Fence) : (s.setFences l).choices = s.choices := rfl
@[simp] theorem State.setFences_pending (l : List Fence) : (s.setFences l).pending = s.pending := rfl
@[simp] theorem State.setFences_wires (l : List Fence) : (s.setFences l).wires = s.wires := rfl
@[simp] theorem State.setFences_follower (l : List Fence) (j : FollowerId) : (s.setFences l).follower j = s.follower j := rfl
@[simp] theorem State.setFences_rack (l : List Fence) (k : RackId) : (s.setFences l).rack k = s.rack k := rfl
@[simp] theorem State.setFences_port (l : List Fence) (k : RackId) : (s.setFences l).port k = s.port k := rfl
@[simp] theorem State.setFences_ref (l : List Fence) (x : Reference) : (s.setFences l).ref x = s.ref x := rfl
@[simp] theorem State.setFences_usable (l : List Fence) (x : Reference) : (s.setFences l).usable x = s.usable x := rfl
@[simp] theorem State.setFences_now (l : List Fence) : (s.setFences l).now = s.now := rfl

/-! ## `State.refreshPulse` -/

@[simp] theorem State.refreshPulse_elapsed : (s.refreshPulse).elapsed = s.elapsed := rfl
@[simp] theorem State.refreshPulse_row : (s.refreshPulse).row = s.row := rfl
@[simp] theorem State.refreshPulse_selector : (s.refreshPulse).selector = s.selector := rfl
@[simp] theorem State.refreshPulse_followers : (s.refreshPulse).followers = s.followers := rfl
@[simp] theorem State.refreshPulse_racks : (s.refreshPulse).racks = s.racks := rfl
@[simp] theorem State.refreshPulse_fences : (s.refreshPulse).fences = s.fences := rfl
@[simp] theorem State.refreshPulse_link : (s.refreshPulse).link = s.link := rfl
@[simp] theorem State.refreshPulse_lines : (s.refreshPulse).lines = s.lines := rfl
@[simp] theorem State.refreshPulse_pulseWindow : (s.refreshPulse).pulseWindow = s.row.pulseCondition := rfl
@[simp] theorem State.refreshPulse_boundaries : (s.refreshPulse).boundaries = s.boundaries := rfl
@[simp] theorem State.refreshPulse_choices : (s.refreshPulse).choices = s.choices := rfl
@[simp] theorem State.refreshPulse_pending : (s.refreshPulse).pending = s.pending := rfl
@[simp] theorem State.refreshPulse_wires : (s.refreshPulse).wires = s.wires := rfl
@[simp] theorem State.refreshPulse_follower (j : FollowerId) : (s.refreshPulse).follower j = s.follower j := rfl
@[simp] theorem State.refreshPulse_rack (k : RackId) : (s.refreshPulse).rack k = s.rack k := rfl
@[simp] theorem State.refreshPulse_port (k : RackId) : (s.refreshPulse).port k = s.port k := rfl
@[simp] theorem State.refreshPulse_ref (x : Reference) : (s.refreshPulse).ref x = s.ref x := rfl
@[simp] theorem State.refreshPulse_usable (x : Reference) : (s.refreshPulse).usable x = s.usable x := rfl
@[simp] theorem State.refreshPulse_now : (s.refreshPulse).now = s.now := rfl

/-! ## Conditional updates -/


@[simp] theorem State.raiseIf_elapsed (c : Bool) (e : Event) : (s.raiseIf c e).elapsed = s.elapsed := rfl
@[simp] theorem State.raiseIf_row (c : Bool) (e : Event) : (s.raiseIf c e).row = s.row := rfl
@[simp] theorem State.raiseIf_selector (c : Bool) (e : Event) : (s.raiseIf c e).selector = s.selector := rfl
@[simp] theorem State.raiseIf_followers (c : Bool) (e : Event) : (s.raiseIf c e).followers = s.followers := rfl
@[simp] theorem State.raiseIf_racks (c : Bool) (e : Event) : (s.raiseIf c e).racks = s.racks := rfl
@[simp] theorem State.raiseIf_fences (c : Bool) (e : Event) : (s.raiseIf c e).fences = s.fences := rfl
@[simp] theorem State.raiseIf_lines (c : Bool) (e : Event) : (s.raiseIf c e).lines = s.lines := rfl
@[simp] theorem State.raiseIf_pulseWindow (c : Bool) (e : Event) : (s.raiseIf c e).pulseWindow = s.pulseWindow := rfl
@[simp] theorem State.raiseIf_boundaries (c : Bool) (e : Event) : (s.raiseIf c e).boundaries = s.boundaries := rfl
@[simp] theorem State.raiseIf_choices (c : Bool) (e : Event) : (s.raiseIf c e).choices = s.choices := rfl
@[simp] theorem State.raiseIf_pending (c : Bool) (e : Event) : (s.raiseIf c e).pending = s.pending := rfl
@[simp] theorem State.raiseIf_wires (c : Bool) (e : Event) : (s.raiseIf c e).wires = s.wires := rfl
@[simp] theorem State.raiseIf_follower (c : Bool) (e : Event) (j : FollowerId) : (s.raiseIf c e).follower j = s.follower j := rfl
@[simp] theorem State.raiseIf_rack (c : Bool) (e : Event) (k : RackId) : (s.raiseIf c e).rack k = s.rack k := rfl
@[simp] theorem State.raiseIf_port (c : Bool) (e : Event) (k : RackId) : (s.raiseIf c e).port k = s.port k := rfl
@[simp] theorem State.raiseIf_ref (c : Bool) (e : Event) (x : Reference) : (s.raiseIf c e).ref x = s.ref x := rfl
@[simp] theorem State.raiseIf_usable (c : Bool) (e : Event) (x : Reference) : (s.raiseIf c e).usable x = s.usable x := rfl
@[simp] theorem State.raiseIf_now (c : Bool) (e : Event) : (s.raiseIf c e).now = s.now := rfl

/-! ## `State.enterRowState` -/

@[simp] theorem State.enterRowState_elapsed (t : RowState) : (s.enterRowState t).elapsed = s.elapsed := rfl
@[simp] theorem State.enterRowState_selector (t : RowState) : (s.enterRowState t).selector = s.selector := rfl
@[simp] theorem State.enterRowState_followers (t : RowState) : (s.enterRowState t).followers = s.followers := rfl
@[simp] theorem State.enterRowState_racks (t : RowState) : (s.enterRowState t).racks = s.racks := rfl
@[simp] theorem State.enterRowState_fences (t : RowState) : (s.enterRowState t).fences = s.fences := rfl
@[simp] theorem State.enterRowState_lines (t : RowState) : (s.enterRowState t).lines = s.lines := rfl
@[simp] theorem State.enterRowState_pulseWindow (t : RowState) : (s.enterRowState t).pulseWindow = s.pulseWindow := rfl
@[simp] theorem State.enterRowState_boundaries (t : RowState) : (s.enterRowState t).boundaries = s.boundaries := rfl
@[simp] theorem State.enterRowState_choices (t : RowState) : (s.enterRowState t).choices = s.choices := rfl
@[simp] theorem State.enterRowState_pending (t : RowState) : (s.enterRowState t).pending = s.pending := rfl
@[simp] theorem State.enterRowState_wires (t : RowState) : (s.enterRowState t).wires = s.wires := rfl
@[simp] theorem State.enterRowState_row (t : RowState) : (s.enterRowState t).row = { s.row with state := t } := rfl

/-- Entering a row state raises the row state changed event exactly where the state changes (R32). -/
theorem State.enterRowState_link (t : RowState) :
    (s.enterRowState t).link =
      { s.link with events := if s.row.state = t then s.link.events else { s.link.events with rowStateChanged := true } } := by
  by_cases h : s.row.state = t <;> simp [State.enterRowState, State.raiseIf, Events.raise, h]

/-! ## Reading back -/

@[simp] theorem State.follower_setFollower_self (i : FollowerId) (f : Follower) : (s.setFollower i f).follower i = f := by
  simp [State.follower, State.setFollower]

theorem State.follower_setFollower_ne {i j : FollowerId} (f : Follower) (h : i ≠ j) : (s.setFollower i f).follower j = s.follower j := by
  have h' : i.val ≠ j.val := fun e => h (Fin.ext e)
  simp [State.follower, State.setFollower, Vector.getElem_set_ne, h']

/-- Every record after one record is replaced. -/
theorem State.follower_setFollower (i j : FollowerId) (f : Follower) :
    (s.setFollower i f).follower j = if i = j then f else s.follower j := by
  by_cases h : i = j
  · subst h; simp
  · simp [State.follower_setFollower_ne s f h, h]

@[simp] theorem State.rack_setRack_self (p : RackId) (r : Rack) : (s.setRack p r).rack p = r := by
  simp [State.rack, State.setRack]

theorem State.rack_setRack_ne {p k : RackId} (r : Rack) (h : p ≠ k) : (s.setRack p r).rack k = s.rack k := by
  have h' : p.val ≠ k.val := fun e => h (Fin.ext e)
  simp [State.rack, State.setRack, Vector.getElem_set_ne, h']

/-- Every rack record after one is replaced. -/
theorem State.rack_setRack (p k : RackId) (r : Rack) : (s.setRack p r).rack k = if p = k then r else s.rack k := by
  by_cases h : p = k
  · subst h; simp
  · simp [State.rack_setRack_ne s r h, h]

@[simp] theorem State.rack_setPort_self (p : RackId) (q : Port) : (s.setPort p q).rack p = { s.rack p with port := q } := by
  simp [State.setPort]

theorem State.rack_setPort (p k : RackId) (q : Port) :
    (s.setPort p q).rack k = if p = k then { s.rack k with port := q } else s.rack k := by
  by_cases h : p = k
  · subst h; simp
  · simp [State.setPort, State.rack_setRack_ne s _ h, h]

@[simp] theorem State.port_setPort_self (p : RackId) (q : Port) : (s.setPort p q).port p = q := by
  simp [State.port]

/-- Every port after one port's fields are replaced. -/
theorem State.port_setPort (p k : RackId) (q : Port) : (s.setPort p q).port k = if p = k then q else s.port k := by
  by_cases h : p = k
  · subst h; simp
  · simp [State.port, State.rack_setPort, h]

@[simp] theorem State.rack_setDrift_self (p : RackId) (d : Drift) : (s.setDrift p d).rack p = { s.rack p with drift := d } := by
  simp [State.setDrift]

theorem State.rack_setDrift (p k : RackId) (d : Drift) :
    (s.setDrift p d).rack k = if p = k then { s.rack k with drift := d } else s.rack k := by
  by_cases h : p = k
  · subst h; simp
  · simp [State.setDrift, State.rack_setRack_ne s _ h, h]

@[simp] theorem State.port_setDrift (p k : RackId) (d : Drift) : (s.setDrift p d).port k = s.port k := by
  by_cases h : p = k
  · subst h; simp [State.port]
  · simp [State.port, State.rack_setDrift, h]

@[simp] theorem Selector.ref_setRef_self (x : Selector) (r : Reference) (v : RefRecord) : (x.setRef r v).ref r = v := by cases r <;> rfl

/-- Every reference record after one is replaced. -/
theorem Selector.ref_setRef (x : Selector) (r k : Reference) (v : RefRecord) :
    (x.setRef r v).ref k = if r = k then v else x.ref k := by cases r <;> cases k <;> rfl

@[simp] theorem Selector.setRef_selected (x : Selector) (r : Reference) (v : RefRecord) : (x.setRef r v).selected = x.selected := by cases r <;> rfl
@[simp] theorem Selector.setRef_backup (x : Selector) (r : Reference) (v : RefRecord) : (x.setRef r v).backup = x.backup := by cases r <;> rfl
@[simp] theorem Selector.setRef_inUse (x : Selector) (r : Reference) (v : RefRecord) : (x.setRef r v).inUse = x.inUse := by cases r <;> rfl
@[simp] theorem Selector.setRef_firstMark (x : Selector) (r : Reference) (v : RefRecord) : (x.setRef r v).firstMark = x.firstMark := by cases r <;> rfl

@[simp] theorem State.ref_setRef_self (r : Reference) (v : RefRecord) : (s.setRef r v).ref r = v := by simp [State.ref]

/-- Every reference record of the state after one is replaced. -/
theorem State.ref_setRef (r k : Reference) (v : RefRecord) : (s.setRef r v).ref k = if r = k then v else s.ref k := by
  simp [State.ref, Selector.ref_setRef]

/-- An entry of a table to which a function was applied throughout. -/
@[simp] theorem mapTable_getElem {α : Type} {n : Nat} (f : α → α) (v : Vector α n) (i : Nat) (h : i < n) :
    (mapTable f v)[i] = f v[i] := by
  simp [mapTable, Vector.getElem_mk]

end Sys2Proof.Machine
end

