-- ==== Sys2Proof/Laws/Keeps.lean ====
section
/-! SUPPORT. What each shared operation leaves alone: one lemma per operation and field, so that a proof about a field never unfolds an operation that does not write it. -/

namespace Sys2Proof.Machine

/-- A fold whose every step keeps a quantity keeps it. -/
theorem foldl_keeps {α β : Type} (f : State → α → State) (g : State → β) (h : ∀ t a, g (f t a) = g t) (l : List α) (s : State) :
    g (l.foldl f s) = g s := by
  induction l generalizing s with
  | nil => rfl
  | cons a l ih => exact (ih (f s a)).trans (h s a)

variable (s : State)

/-! ## `State.noticeIf` -/

@[simp] theorem State.noticeIf_elapsed (c : Bool) (i : FollowerId) : (s.noticeIf c i).elapsed = s.elapsed := by
  cases c <;> rfl
@[simp] theorem State.noticeIf_row (c : Bool) (i : FollowerId) : (s.noticeIf c i).row = s.row := by
  cases c <;> rfl
@[simp] theorem State.noticeIf_selector (c : Bool) (i : FollowerId) : (s.noticeIf c i).selector = s.selector := by
  cases c <;> rfl
@[simp] theorem State.noticeIf_racks (c : Bool) (i : FollowerId) : (s.noticeIf c i).racks = s.racks := by
  cases c <;> rfl
@[simp] theorem State.noticeIf_fences (c : Bool) (i : FollowerId) : (s.noticeIf c i).fences = s.fences := by
  cases c <;> rfl
@[simp] theorem State.noticeIf_lines (c : Bool) (i : FollowerId) : (s.noticeIf c i).lines = s.lines := by
  cases c <;> rfl
@[simp] theorem State.noticeIf_pulseWindow (c : Bool) (i : FollowerId) : (s.noticeIf c i).pulseWindow = s.pulseWindow := by
  cases c <;> rfl
@[simp] theorem State.noticeIf_boundaries (c : Bool) (i : FollowerId) : (s.noticeIf c i).boundaries = s.boundaries := by
  cases c <;> rfl
@[simp] theorem State.noticeIf_choices (c : Bool) (i : FollowerId) : (s.noticeIf c i).choices = s.choices := by
  cases c <;> rfl
@[simp] theorem State.noticeIf_pending (c : Bool) (i : FollowerId) : (s.noticeIf c i).pending = s.pending := by
  cases c <;> rfl

@[simp] theorem State.noticeIf_wires (c : Bool) (i : FollowerId) : (s.noticeIf c i).wires = s.wires := by
  cases c <;> rfl

/-! ## `State.notice` -/

@[simp] theorem State.notice_elapsed (i : FollowerId) : (s.notice i).elapsed = s.elapsed := by
  rfl
@[simp] theorem State.notice_row (i : FollowerId) : (s.notice i).row = s.row := by
  rfl
@[simp] theorem State.notice_selector (i : FollowerId) : (s.notice i).selector = s.selector := by
  rfl
@[simp] theorem State.notice_racks (i : FollowerId) : (s.notice i).racks = s.racks := by
  rfl
@[simp] theorem State.notice_fences (i : FollowerId) : (s.notice i).fences = s.fences := by
  rfl
@[simp] theorem State.notice_lines (i : FollowerId) : (s.notice i).lines = s.lines := by
  rfl
@[simp] theorem State.notice_pulseWindow (i : FollowerId) : (s.notice i).pulseWindow = s.pulseWindow := by
  rfl
@[simp] theorem State.notice_boundaries (i : FollowerId) : (s.notice i).boundaries = s.boundaries := by
  rfl
@[simp] theorem State.notice_choices (i : FollowerId) : (s.notice i).choices = s.choices := by
  rfl
@[simp] theorem State.notice_pending (i : FollowerId) : (s.notice i).pending = s.pending := by
  rfl

@[simp] theorem State.notice_wires (i : FollowerId) : (s.notice i).wires = s.wires := by
  rfl

/-! ## `State.endOrder` -/

@[simp] theorem State.endOrder_elapsed (i : FollowerId) (how : OrderEnd) : (s.endOrder i how).elapsed = s.elapsed := by
  unfold State.endOrder; dsimp only; split <;> simp
@[simp] theorem State.endOrder_row (i : FollowerId) (how : OrderEnd) : (s.endOrder i how).row = s.row := by
  unfold State.endOrder; dsimp only; split <;> simp
@[simp] theorem State.endOrder_selector (i : FollowerId) (how : OrderEnd) : (s.endOrder i how).selector = s.selector := by
  unfold State.endOrder; dsimp only; split <;> simp
@[simp] theorem State.endOrder_racks (i : FollowerId) (how : OrderEnd) : (s.endOrder i how).racks = s.racks := by
  unfold State.endOrder; dsimp only; split <;> simp
@[simp] theorem State.endOrder_fences (i : FollowerId) (how : OrderEnd) : (s.endOrder i how).fences = s.fences := by
  unfold State.endOrder; dsimp only; split <;> simp
@[simp] theorem State.endOrder_lines (i : FollowerId) (how : OrderEnd) : (s.endOrder i how).lines = s.lines := by
  unfold State.endOrder; dsimp only; split <;> simp
@[simp] theorem State.endOrder_pulseWindow (i : FollowerId) (how : OrderEnd) : (s.endOrder i how).pulseWindow = s.pulseWindow := by
  unfold State.endOrder; dsimp only; split <;> simp
@[simp] theorem State.endOrder_boundaries (i : FollowerId) (how : OrderEnd) : (s.endOrder i how).boundaries = s.boundaries := by
  unfold State.endOrder; dsimp only; split <;> simp
@[simp] theorem State.endOrder_choices (i : FollowerId) (how : OrderEnd) : (s.endOrder i how).choices = s.choices := by
  unfold State.endOrder; dsimp only; split <;> simp
@[simp] theorem State.endOrder_pending (i : FollowerId) (how : OrderEnd) : (s.endOrder i how).pending = s.pending := by
  unfold State.endOrder; dsimp only; split <;> simp

@[simp] theorem State.endOrder_wires (i : FollowerId) (how : OrderEnd) : (s.endOrder i how).wires = s.wires := by
  unfold State.endOrder; dsimp only; split <;> simp

/-! ## `State.addAttempt` -/

@[simp] theorem State.addAttempt_elapsed (i : FollowerId) : (s.addAttempt i).elapsed = s.elapsed := by
  unfold State.addAttempt; dsimp only; split; · rfl
  · split <;> simp
@[simp] theorem State.addAttempt_row (i : FollowerId) : (s.addAttempt i).row = s.row := by
  unfold State.addAttempt; dsimp only; split; · rfl
  · split <;> simp
@[simp] theorem State.addAttempt_selector (i : FollowerId) : (s.addAttempt i).selector = s.selector := by
  unfold State.addAttempt; dsimp only; split; · rfl
  · split <;> simp
@[simp] theorem State.addAttempt_racks (i : FollowerId) : (s.addAttempt i).racks = s.racks := by
  unfold State.addAttempt; dsimp only; split; · rfl
  · split <;> simp
@[simp] theorem State.addAttempt_fences (i : FollowerId) : (s.addAttempt i).fences = s.fences := by
  unfold State.addAttempt; dsimp only; split; · rfl
  · split <;> simp
@[simp] theorem State.addAttempt_lines (i : FollowerId) : (s.addAttempt i).lines = s.lines := by
  unfold State.addAttempt; dsimp only; split; · rfl
  · split <;> simp
@[simp] theorem State.addAttempt_pulseWindow (i : FollowerId) : (s.addAttempt i).pulseWindow = s.pulseWindow := by
  unfold State.addAttempt; dsimp only; split; · rfl
  · split <;> simp
@[simp] theorem State.addAttempt_boundaries (i : FollowerId) : (s.addAttempt i).boundaries = s.boundaries := by
  unfold State.addAttempt; dsimp only; split; · rfl
  · split <;> simp
@[simp] theorem State.addAttempt_choices (i : FollowerId) : (s.addAttempt i).choices = s.choices := by
  unfold State.addAttempt; dsimp only; split; · rfl
  · split <;> simp
@[simp] theorem State.addAttempt_pending (i : FollowerId) : (s.addAttempt i).pending = s.pending := by
  unfold State.addAttempt; dsimp only; split; · rfl
  · split <;> simp

@[simp] theorem State.addAttempt_wires (i : FollowerId) : (s.addAttempt i).wires = s.wires := by
  unfold State.addAttempt; dsimp only; split; · rfl
  · split <;> simp

/-! ## `State.goStale` -/

@[simp] theorem State.goStale_elapsed (i : FollowerId) : (s.goStale i).elapsed = s.elapsed := by
  simp [State.goStale]
@[simp] theorem State.goStale_row (i : FollowerId) : (s.goStale i).row = s.row := by
  simp [State.goStale]
@[simp] theorem State.goStale_selector (i : FollowerId) : (s.goStale i).selector = s.selector := by
  simp [State.goStale]
@[simp] theorem State.goStale_racks (i : FollowerId) : (s.goStale i).racks = s.racks := by
  simp [State.goStale]
@[simp] theorem State.goStale_fences (i : FollowerId) : (s.goStale i).fences = s.fences := by
  simp [State.goStale]
@[simp] theorem State.goStale_lines (i : FollowerId) : (s.goStale i).lines = s.lines := by
  simp [State.goStale]
@[simp] theorem State.goStale_pulseWindow (i : FollowerId) : (s.goStale i).pulseWindow = s.pulseWindow := by
  simp [State.goStale]
@[simp] theorem State.goStale_boundaries (i : FollowerId) : (s.goStale i).boundaries = s.boundaries := by
  simp [State.goStale]
@[simp] theorem State.goStale_choices (i : FollowerId) : (s.goStale i).choices = s.choices := by
  simp [State.goStale]
@[simp] theorem State.goStale_pending (i : FollowerId) : (s.goStale i).pending = s.pending := by
  simp [State.goStale]

@[simp] theorem State.goStale_wires (i : FollowerId) : (s.goStale i).wires = s.wires := by
  simp [State.goStale]

/-! ## `State.countFault` -/

@[simp] theorem State.countFault_elapsed (i : FollowerId) (k : FaultKind) : (s.countFault i k).elapsed = s.elapsed := by
  unfold State.countFault; dsimp only; split <;> simp
@[simp] theorem State.countFault_row (i : FollowerId) (k : FaultKind) : (s.countFault i k).row = s.row := by
  unfold State.countFault; dsimp only; split <;> simp
@[simp] theorem State.countFault_selector (i : FollowerId) (k : FaultKind) : (s.countFault i k).selector = s.selector := by
  unfold State.countFault; dsimp only; split <;> simp
@[simp] theorem State.countFault_racks (i : FollowerId) (k : FaultKind) : (s.countFault i k).racks = s.racks := by
  unfold State.countFault; dsimp only; split <;> simp
@[simp] theorem State.countFault_fences (i : FollowerId) (k : FaultKind) : (s.countFault i k).fences = s.fences := by
  unfold State.countFault; dsimp only; split <;> simp
@[simp] theorem State.countFault_lines (i : FollowerId) (k : FaultKind) : (s.countFault i k).lines = s.lines := by
  unfold State.countFault; dsimp only; split <;> simp
@[simp] theorem State.countFault_pulseWindow (i : FollowerId) (k : FaultKind) : (s.countFault i k).pulseWindow = s.pulseWindow := by
  unfold State.countFault; dsimp only; split <;> simp
@[simp] theorem State.countFault_boundaries (i : FollowerId) (k : FaultKind) : (s.countFault i k).boundaries = s.boundaries := by
  unfold State.countFault; dsimp only; split <;> simp
@[simp] theorem State.countFault_choices (i : FollowerId) (k : FaultKind) : (s.countFault i k).choices = s.choices := by
  unfold State.countFault; dsimp only; split <;> simp
@[simp] theorem State.countFault_pending (i : FollowerId) (k : FaultKind) : (s.countFault i k).pending = s.pending := by
  unfold State.countFault; dsimp only; split <;> simp

@[simp] theorem State.countFault_wires (i : FollowerId) (k : FaultKind) : (s.countFault i k).wires = s.wires := by
  unfold State.countFault; dsimp only; split <;> simp

/-! ## `State.removeFencesOf` -/

@[simp] theorem State.removeFencesOf_elapsed (i : FollowerId) : (s.removeFencesOf i).elapsed = s.elapsed := by
  rfl
@[simp] theorem State.removeFencesOf_row (i : FollowerId) : (s.removeFencesOf i).row = s.row := by
  rfl
@[simp] theorem State.removeFencesOf_selector (i : FollowerId) : (s.removeFencesOf i).selector = s.selector := by
  rfl
@[simp] theorem State.removeFencesOf_followers (i : FollowerId) : (s.removeFencesOf i).followers = s.followers := by
  rfl
@[simp] theorem State.removeFencesOf_racks (i : FollowerId) : (s.removeFencesOf i).racks = s.racks := by
  rfl
@[simp] theorem State.removeFencesOf_link (i : FollowerId) : (s.removeFencesOf i).link = s.link := by
  rfl
@[simp] theorem State.removeFencesOf_lines (i : FollowerId) : (s.removeFencesOf i).lines = s.lines := by
  rfl
@[simp] theorem State.removeFencesOf_pulseWindow (i : FollowerId) : (s.removeFencesOf i).pulseWindow = s.pulseWindow := by
  rfl
@[simp] theorem State.removeFencesOf_boundaries (i : FollowerId) : (s.removeFencesOf i).boundaries = s.boundaries := by
  rfl
@[simp] theorem State.removeFencesOf_choices (i : FollowerId) : (s.removeFencesOf i).choices = s.choices := by
  rfl
@[simp] theorem State.removeFencesOf_pending (i : FollowerId) : (s.removeFencesOf i).pending = s.pending := by
  rfl

@[simp] theorem State.removeFencesOf_wires (i : FollowerId) : (s.removeFencesOf i).wires = s.wires := by
  rfl

/-! ## `State.vacate` -/

@[simp] theorem State.vacate_elapsed (i : FollowerId) : (s.vacate i).elapsed = s.elapsed := by
  simp [State.vacate]
@[simp] theorem State.vacate_row (i : FollowerId) : (s.vacate i).row = s.row := by
  simp [State.vacate]
@[simp] theorem State.vacate_selector (i : FollowerId) : (s.vacate i).selector = s.selector := by
  simp [State.vacate]
@[simp] theorem State.vacate_racks (i : FollowerId) : (s.vacate i).racks = s.racks := by
  simp [State.vacate]
@[simp] theorem State.vacate_lines (i : FollowerId) : (s.vacate i).lines = s.lines := by
  simp [State.vacate]
@[simp] theorem State.vacate_pulseWindow (i : FollowerId) : (s.vacate i).pulseWindow = s.pulseWindow := by
  simp [State.vacate]
@[simp] theorem State.vacate_boundaries (i : FollowerId) : (s.vacate i).boundaries = s.boundaries := by
  simp [State.vacate]
@[simp] theorem State.vacate_choices (i : FollowerId) : (s.vacate i).choices = s.choices := by
  simp [State.vacate]
@[simp] theorem State.vacate_pending (i : FollowerId) : (s.vacate i).pending = s.pending := by
  simp [State.vacate]

@[simp] theorem State.vacate_wires (i : FollowerId) : (s.vacate i).wires = s.wires := by
  simp [State.vacate]

/-! ## `State.rowEpochs` -/

@[simp] theorem State.rowEpochs_elapsed : (s.rowEpochs).elapsed = s.elapsed := by
  rfl
@[simp] theorem State.rowEpochs_row : (s.rowEpochs).row = s.row := by
  rfl
@[simp] theorem State.rowEpochs_selector : (s.rowEpochs).selector = s.selector := by
  rfl
@[simp] theorem State.rowEpochs_racks : (s.rowEpochs).racks = s.racks := by
  rfl
@[simp] theorem State.rowEpochs_fences : (s.rowEpochs).fences = s.fences := by
  rfl
@[simp] theorem State.rowEpochs_link : (s.rowEpochs).link = s.link := by
  rfl
@[simp] theorem State.rowEpochs_lines : (s.rowEpochs).lines = s.lines := by
  rfl
@[simp] theorem State.rowEpochs_pulseWindow : (s.rowEpochs).pulseWindow = s.pulseWindow := by
  rfl
@[simp] theorem State.rowEpochs_boundaries : (s.rowEpochs).boundaries = s.boundaries := by
  rfl
@[simp] theorem State.rowEpochs_choices : (s.rowEpochs).choices = s.choices := by
  rfl
@[simp] theorem State.rowEpochs_pending : (s.rowEpochs).pending = s.pending := by
  rfl

@[simp] theorem State.rowEpochs_wires : (s.rowEpochs).wires = s.wires := by
  rfl

/-! ## `State.ageTestOne` -/

@[simp] theorem State.ageTestOne_elapsed (i : FollowerId) : (s.ageTestOne i).elapsed = s.elapsed := by
  unfold State.ageTestOne; split <;> simp
@[simp] theorem State.ageTestOne_row (i : FollowerId) : (s.ageTestOne i).row = s.row := by
  unfold State.ageTestOne; split <;> simp
@[simp] theorem State.ageTestOne_selector (i : FollowerId) : (s.ageTestOne i).selector = s.selector := by
  unfold State.ageTestOne; split <;> simp
@[simp] theorem State.ageTestOne_racks (i : FollowerId) : (s.ageTestOne i).racks = s.racks := by
  unfold State.ageTestOne; split <;> simp
@[simp] theorem State.ageTestOne_fences (i : FollowerId) : (s.ageTestOne i).fences = s.fences := by
  unfold State.ageTestOne; split <;> simp
@[simp] theorem State.ageTestOne_lines (i : FollowerId) : (s.ageTestOne i).lines = s.lines := by
  unfold State.ageTestOne; split <;> simp
@[simp] theorem State.ageTestOne_pulseWindow (i : FollowerId) : (s.ageTestOne i).pulseWindow = s.pulseWindow := by
  unfold State.ageTestOne; split <;> simp
@[simp] theorem State.ageTestOne_boundaries (i : FollowerId) : (s.ageTestOne i).boundaries = s.boundaries := by
  unfold State.ageTestOne; split <;> simp
@[simp] theorem State.ageTestOne_choices (i : FollowerId) : (s.ageTestOne i).choices = s.choices := by
  unfold State.ageTestOne; split <;> simp
@[simp] theorem State.ageTestOne_pending (i : FollowerId) : (s.ageTestOne i).pending = s.pending := by
  unfold State.ageTestOne; split <;> simp

@[simp] theorem State.ageTestOne_wires (i : FollowerId) : (s.ageTestOne i).wires = s.wires := by
  unfold State.ageTestOne; split <;> simp

/-! ## `State.ageTest` -/

@[simp] theorem State.ageTest_elapsed : (s.ageTest).elapsed = s.elapsed := by
  exact foldl_keeps State.ageTestOne State.elapsed (fun t i => t.ageTestOne_elapsed i) allFollowers s
@[simp] theorem State.ageTest_row : (s.ageTest).row = s.row := by
  exact foldl_keeps State.ageTestOne State.row (fun t i => t.ageTestOne_row i) allFollowers s
@[simp] theorem State.ageTest_selector : (s.ageTest).selector = s.selector := by
  exact foldl_keeps State.ageTestOne State.selector (fun t i => t.ageTestOne_selector i) allFollowers s
@[simp] theorem State.ageTest_racks : (s.ageTest).racks = s.racks := by
  exact foldl_keeps State.ageTestOne State.racks (fun t i => t.ageTestOne_racks i) allFollowers s
@[simp] theorem State.ageTest_fences : (s.ageTest).fences = s.fences := by
  exact foldl_keeps State.ageTestOne State.fences (fun t i => t.ageTestOne_fences i) allFollowers s
@[simp] theorem State.ageTest_lines : (s.ageTest).lines = s.lines := by
  exact foldl_keeps State.ageTestOne State.lines (fun t i => t.ageTestOne_lines i) allFollowers s
@[simp] theorem State.ageTest_pulseWindow : (s.ageTest).pulseWindow = s.pulseWindow := by
  exact foldl_keeps State.ageTestOne State.pulseWindow (fun t i => t.ageTestOne_pulseWindow i) allFollowers s
@[simp] theorem State.ageTest_boundaries : (s.ageTest).boundaries = s.boundaries := by
  exact foldl_keeps State.ageTestOne State.boundaries (fun t i => t.ageTestOne_boundaries i) allFollowers s
@[simp] theorem State.ageTest_choices : (s.ageTest).choices = s.choices := by
  exact foldl_keeps State.ageTestOne State.choices (fun t i => t.ageTestOne_choices i) allFollowers s
@[simp] theorem State.ageTest_pending : (s.ageTest).pending = s.pending := by
  exact foldl_keeps State.ageTestOne State.pending (fun t i => t.ageTestOne_pending i) allFollowers s

@[simp] theorem State.ageTest_wires : (s.ageTest).wires = s.wires := by
  exact foldl_keeps State.ageTestOne State.wires (fun t i => t.ageTestOne_wires i) allFollowers s

/-! ## `State.takePersistenceExpiry` -/

@[simp] theorem State.takePersistenceExpiry_elapsed (p : RackId) : (s.takePersistenceExpiry p).elapsed = s.elapsed := by
  unfold State.takePersistenceExpiry; dsimp only; split; · split <;> simp
  · rfl
@[simp] theorem State.takePersistenceExpiry_row (p : RackId) : (s.takePersistenceExpiry p).row = s.row := by
  unfold State.takePersistenceExpiry; dsimp only; split; · split <;> simp
  · rfl
@[simp] theorem State.takePersistenceExpiry_selector (p : RackId) : (s.takePersistenceExpiry p).selector = s.selector := by
  unfold State.takePersistenceExpiry; dsimp only; split; · split <;> simp
  · rfl
@[simp] theorem State.takePersistenceExpiry_followers (p : RackId) : (s.takePersistenceExpiry p).followers = s.followers := by
  unfold State.takePersistenceExpiry; dsimp only; split; · split <;> simp
  · rfl
@[simp] theorem State.takePersistenceExpiry_fences (p : RackId) : (s.takePersistenceExpiry p).fences = s.fences := by
  unfold State.takePersistenceExpiry; dsimp only; split; · split <;> simp
  · rfl
@[simp] theorem State.takePersistenceExpiry_lines (p : RackId) : (s.takePersistenceExpiry p).lines = s.lines := by
  unfold State.takePersistenceExpiry; dsimp only; split; · split <;> simp
  · rfl
@[simp] theorem State.takePersistenceExpiry_pulseWindow (p : RackId) : (s.takePersistenceExpiry p).pulseWindow = s.pulseWindow := by
  unfold State.takePersistenceExpiry; dsimp only; split; · split <;> simp
  · rfl
@[simp] theorem State.takePersistenceExpiry_boundaries (p : RackId) : (s.takePersistenceExpiry p).boundaries = s.boundaries := by
  unfold State.takePersistenceExpiry; dsimp only; split; · split <;> simp
  · rfl
@[simp] theorem State.takePersistenceExpiry_choices (p : RackId) : (s.takePersistenceExpiry p).choices = s.choices := by
  unfold State.takePersistenceExpiry; dsimp only; split; · split <;> simp
  · rfl
@[simp] theorem State.takePersistenceExpiry_pending (p : RackId) : (s.takePersistenceExpiry p).pending = s.pending := by
  unfold State.takePersistenceExpiry; dsimp only; split; · split <;> simp
  · rfl

@[simp] theorem State.takePersistenceExpiry_wires (p : RackId) : (s.takePersistenceExpiry p).wires = s.wires := by
  unfold State.takePersistenceExpiry; dsimp only; split; · split <;> simp
  · rfl

/-! ## `State.takeCalmExpiry` -/

@[simp] theorem State.takeCalmExpiry_elapsed (p : RackId) : (s.takeCalmExpiry p).elapsed = s.elapsed := by
  unfold State.takeCalmExpiry; dsimp only; split; · split <;> simp
  · rfl
@[simp] theorem State.takeCalmExpiry_row (p : RackId) : (s.takeCalmExpiry p).row = s.row := by
  unfold State.takeCalmExpiry; dsimp only; split; · split <;> simp
  · rfl
@[simp] theorem State.takeCalmExpiry_selector (p : RackId) : (s.takeCalmExpiry p).selector = s.selector := by
  unfold State.takeCalmExpiry; dsimp only; split; · split <;> simp
  · rfl
@[simp] theorem State.takeCalmExpiry_followers (p : RackId) : (s.takeCalmExpiry p).followers = s.followers := by
  unfold State.takeCalmExpiry; dsimp only; split; · split <;> simp
  · rfl
@[simp] theorem State.takeCalmExpiry_fences (p : RackId) : (s.takeCalmExpiry p).fences = s.fences := by
  unfold State.takeCalmExpiry; dsimp only; split; · split <;> simp
  · rfl
@[simp] theorem State.takeCalmExpiry_lines (p : RackId) : (s.takeCalmExpiry p).lines = s.lines := by
  unfold State.takeCalmExpiry; dsimp only; split; · split <;> simp
  · rfl
@[simp] theorem State.takeCalmExpiry_pulseWindow (p : RackId) : (s.takeCalmExpiry p).pulseWindow = s.pulseWindow := by
  unfold State.takeCalmExpiry; dsimp only; split; · split <;> simp
  · rfl
@[simp] theorem State.takeCalmExpiry_boundaries (p : RackId) : (s.takeCalmExpiry p).boundaries = s.boundaries := by
  unfold State.takeCalmExpiry; dsimp only; split; · split <;> simp
  · rfl
@[simp] theorem State.takeCalmExpiry_choices (p : RackId) : (s.takeCalmExpiry p).choices = s.choices := by
  unfold State.takeCalmExpiry; dsimp only; split; · split <;> simp
  · rfl
@[simp] theorem State.takeCalmExpiry_pending (p : RackId) : (s.takeCalmExpiry p).pending = s.pending := by
  unfold State.takeCalmExpiry; dsimp only; split; · split <;> simp
  · rfl

@[simp] theorem State.takeCalmExpiry_wires (p : RackId) : (s.takeCalmExpiry p).wires = s.wires := by
  unfold State.takeCalmExpiry; dsimp only; split; · split <;> simp
  · rfl

/-! ## `State.takeExpiries` -/

@[simp] theorem State.takeExpiries_elapsed (p : RackId) : (s.takeExpiries p).elapsed = s.elapsed := by
  simp [State.takeExpiries]
@[simp] theorem State.takeExpiries_row (p : RackId) : (s.takeExpiries p).row = s.row := by
  simp [State.takeExpiries]
@[simp] theorem State.takeExpiries_selector (p : RackId) : (s.takeExpiries p).selector = s.selector := by
  simp [State.takeExpiries]
@[simp] theorem State.takeExpiries_followers (p : RackId) : (s.takeExpiries p).followers = s.followers := by
  simp [State.takeExpiries]
@[simp] theorem State.takeExpiries_fences (p : RackId) : (s.takeExpiries p).fences = s.fences := by
  simp [State.takeExpiries]
@[simp] theorem State.takeExpiries_lines (p : RackId) : (s.takeExpiries p).lines = s.lines := by
  simp [State.takeExpiries]
@[simp] theorem State.takeExpiries_pulseWindow (p : RackId) : (s.takeExpiries p).pulseWindow = s.pulseWindow := by
  simp [State.takeExpiries]
@[simp] theorem State.takeExpiries_boundaries (p : RackId) : (s.takeExpiries p).boundaries = s.boundaries := by
  simp [State.takeExpiries]
@[simp] theorem State.takeExpiries_choices (p : RackId) : (s.takeExpiries p).choices = s.choices := by
  simp [State.takeExpiries]
@[simp] theorem State.takeExpiries_pending (p : RackId) : (s.takeExpiries p).pending = s.pending := by
  simp [State.takeExpiries]

@[simp] theorem State.takeExpiries_wires (p : RackId) : (s.takeExpiries p).wires = s.wires := by
  simp [State.takeExpiries]

/-! ## `State.evaluateRack` -/

@[simp] theorem State.evaluateRack_elapsed (p : RackId) : (s.evaluateRack p).elapsed = s.elapsed := by
  unfold State.evaluateRack; split <;> simp
@[simp] theorem State.evaluateRack_row (p : RackId) : (s.evaluateRack p).row = s.row := by
  unfold State.evaluateRack; split <;> simp
@[simp] theorem State.evaluateRack_selector (p : RackId) : (s.evaluateRack p).selector = s.selector := by
  unfold State.evaluateRack; split <;> simp
@[simp] theorem State.evaluateRack_followers (p : RackId) : (s.evaluateRack p).followers = s.followers := by
  unfold State.evaluateRack; split <;> simp
@[simp] theorem State.evaluateRack_fences (p : RackId) : (s.evaluateRack p).fences = s.fences := by
  unfold State.evaluateRack; split <;> simp
@[simp] theorem State.evaluateRack_lines (p : RackId) : (s.evaluateRack p).lines = s.lines := by
  unfold State.evaluateRack; split <;> simp
@[simp] theorem State.evaluateRack_pulseWindow (p : RackId) : (s.evaluateRack p).pulseWindow = s.pulseWindow := by
  unfold State.evaluateRack; split <;> simp
@[simp] theorem State.evaluateRack_boundaries (p : RackId) : (s.evaluateRack p).boundaries = s.boundaries := by
  unfold State.evaluateRack; split <;> simp
@[simp] theorem State.evaluateRack_choices (p : RackId) : (s.evaluateRack p).choices = s.choices := by
  unfold State.evaluateRack; split <;> simp
@[simp] theorem State.evaluateRack_pending (p : RackId) : (s.evaluateRack p).pending = s.pending := by
  unfold State.evaluateRack; split <;> simp

@[simp] theorem State.evaluateRack_wires (p : RackId) : (s.evaluateRack p).wires = s.wires := by
  unfold State.evaluateRack; split <;> simp

/-! ## `State.deliverBoundary` -/

@[simp] theorem State.deliverBoundary_elapsed : (s.deliverBoundary).elapsed = s.elapsed := by
  exact (foldl_keeps State.evaluateRack State.elapsed (fun t p => t.evaluateRack_elapsed p) allRacks s.ageTest).trans s.ageTest_elapsed
@[simp] theorem State.deliverBoundary_row : (s.deliverBoundary).row = s.row := by
  exact (foldl_keeps State.evaluateRack State.row (fun t p => t.evaluateRack_row p) allRacks s.ageTest).trans s.ageTest_row
@[simp] theorem State.deliverBoundary_selector : (s.deliverBoundary).selector = s.selector := by
  exact (foldl_keeps State.evaluateRack State.selector (fun t p => t.evaluateRack_selector p) allRacks s.ageTest).trans s.ageTest_selector
@[simp] theorem State.deliverBoundary_fences : (s.deliverBoundary).fences = s.fences := by
  exact (foldl_keeps State.evaluateRack State.fences (fun t p => t.evaluateRack_fences p) allRacks s.ageTest).trans s.ageTest_fences
@[simp] theorem State.deliverBoundary_lines : (s.deliverBoundary).lines = s.lines := by
  exact (foldl_keeps State.evaluateRack State.lines (fun t p => t.evaluateRack_lines p) allRacks s.ageTest).trans s.ageTest_lines
@[simp] theorem State.deliverBoundary_pulseWindow : (s.deliverBoundary).pulseWindow = s.pulseWindow := by
  exact (foldl_keeps State.evaluateRack State.pulseWindow (fun t p => t.evaluateRack_pulseWindow p) allRacks s.ageTest).trans s.ageTest_pulseWindow
@[simp] theorem State.deliverBoundary_boundaries : (s.deliverBoundary).boundaries = s.boundaries := by
  exact (foldl_keeps State.evaluateRack State.boundaries (fun t p => t.evaluateRack_boundaries p) allRacks s.ageTest).trans s.ageTest_boundaries
@[simp] theorem State.deliverBoundary_choices : (s.deliverBoundary).choices = s.choices := by
  exact (foldl_keeps State.evaluateRack State.choices (fun t p => t.evaluateRack_choices p) allRacks s.ageTest).trans s.ageTest_choices
@[simp] theorem State.deliverBoundary_pending : (s.deliverBoundary).pending = s.pending := by
  exact (foldl_keeps State.evaluateRack State.pending (fun t p => t.evaluateRack_pending p) allRacks s.ageTest).trans s.ageTest_pending

@[simp] theorem State.deliverBoundary_wires : (s.deliverBoundary).wires = s.wires := by
  exact (foldl_keeps State.evaluateRack State.wires (fun t p => t.evaluateRack_wires p) allRacks s.ageTest).trans s.ageTest_wires

/-! ## `State.driftRestart` -/

@[simp] theorem State.driftRestart_elapsed (p : RackId) : (s.driftRestart p).elapsed = s.elapsed := by
  unfold State.driftRestart; dsimp only; split <;> simp
@[simp] theorem State.driftRestart_row (p : RackId) : (s.driftRestart p).row = s.row := by
  unfold State.driftRestart; dsimp only; split <;> simp
@[simp] theorem State.driftRestart_selector (p : RackId) : (s.driftRestart p).selector = s.selector := by
  unfold State.driftRestart; dsimp only; split <;> simp
@[simp] theorem State.driftRestart_followers (p : RackId) : (s.driftRestart p).followers = s.followers := by
  unfold State.driftRestart; dsimp only; split <;> simp
@[simp] theorem State.driftRestart_fences (p : RackId) : (s.driftRestart p).fences = s.fences := by
  unfold State.driftRestart; dsimp only; split <;> simp
@[simp] theorem State.driftRestart_lines (p : RackId) : (s.driftRestart p).lines = s.lines := by
  unfold State.driftRestart; dsimp only; split <;> simp
@[simp] theorem State.driftRestart_pulseWindow (p : RackId) : (s.driftRestart p).pulseWindow = s.pulseWindow := by
  unfold State.driftRestart; dsimp only; split <;> simp
@[simp] theorem State.driftRestart_boundaries (p : RackId) : (s.driftRestart p).boundaries = s.boundaries := by
  unfold State.driftRestart; dsimp only; split <;> simp
@[simp] theorem State.driftRestart_choices (p : RackId) : (s.driftRestart p).choices = s.choices := by
  unfold State.driftRestart; dsimp only; split <;> simp
@[simp] theorem State.driftRestart_pending (p : RackId) : (s.driftRestart p).pending = s.pending := by
  unfold State.driftRestart; dsimp only; split <;> simp

@[simp] theorem State.driftRestart_wires (p : RackId) : (s.driftRestart p).wires = s.wires := by
  unfold State.driftRestart; dsimp only; split <;> simp

/-! ## `State.clearFences` -/

@[simp] theorem State.clearFences_elapsed : (s.clearFences).elapsed = s.elapsed := by
  rfl
@[simp] theorem State.clearFences_row : (s.clearFences).row = s.row := by
  rfl
@[simp] theorem State.clearFences_selector : (s.clearFences).selector = s.selector := by
  rfl
@[simp] theorem State.clearFences_followers : (s.clearFences).followers = s.followers := by
  rfl
@[simp] theorem State.clearFences_racks : (s.clearFences).racks = s.racks := by
  rfl
@[simp] theorem State.clearFences_link : (s.clearFences).link = s.link := by
  rfl
@[simp] theorem State.clearFences_lines : (s.clearFences).lines = s.lines := by
  rfl
@[simp] theorem State.clearFences_pulseWindow : (s.clearFences).pulseWindow = s.pulseWindow := by
  rfl
@[simp] theorem State.clearFences_boundaries : (s.clearFences).boundaries = s.boundaries := by
  rfl
@[simp] theorem State.clearFences_choices : (s.clearFences).choices = s.choices := by
  rfl
@[simp] theorem State.clearFences_pending : (s.clearFences).pending = s.pending := by
  rfl

@[simp] theorem State.clearFences_wires : (s.clearFences).wires = s.wires := by
  rfl

/-! ## `State.dropFenceAt` -/

@[simp] theorem State.dropFenceAt_elapsed (k : Nat) : (s.dropFenceAt k).elapsed = s.elapsed := by
  rfl
@[simp] theorem State.dropFenceAt_row (k : Nat) : (s.dropFenceAt k).row = s.row := by
  rfl
@[simp] theorem State.dropFenceAt_selector (k : Nat) : (s.dropFenceAt k).selector = s.selector := by
  rfl
@[simp] theorem State.dropFenceAt_followers (k : Nat) : (s.dropFenceAt k).followers = s.followers := by
  rfl
@[simp] theorem State.dropFenceAt_racks (k : Nat) : (s.dropFenceAt k).racks = s.racks := by
  rfl
@[simp] theorem State.dropFenceAt_lines (k : Nat) : (s.dropFenceAt k).lines = s.lines := by
  rfl
@[simp] theorem State.dropFenceAt_pulseWindow (k : Nat) : (s.dropFenceAt k).pulseWindow = s.pulseWindow := by
  rfl
@[simp] theorem State.dropFenceAt_boundaries (k : Nat) : (s.dropFenceAt k).boundaries = s.boundaries := by
  rfl
@[simp] theorem State.dropFenceAt_choices (k : Nat) : (s.dropFenceAt k).choices = s.choices := by
  rfl
@[simp] theorem State.dropFenceAt_pending (k : Nat) : (s.dropFenceAt k).pending = s.pending := by
  rfl

@[simp] theorem State.dropFenceAt_wires (k : Nat) : (s.dropFenceAt k).wires = s.wires := by
  rfl

/-! ## `State.sweepFences` -/

@[simp] theorem State.sweepFences_elapsed : (s.sweepFences).elapsed = s.elapsed := by
  simp [State.sweepFences]
@[simp] theorem State.sweepFences_row : (s.sweepFences).row = s.row := by
  simp [State.sweepFences]
@[simp] theorem State.sweepFences_selector : (s.sweepFences).selector = s.selector := by
  simp [State.sweepFences]
@[simp] theorem State.sweepFences_followers : (s.sweepFences).followers = s.followers := by
  simp [State.sweepFences]
@[simp] theorem State.sweepFences_racks : (s.sweepFences).racks = s.racks := by
  simp [State.sweepFences]
@[simp] theorem State.sweepFences_lines : (s.sweepFences).lines = s.lines := by
  simp [State.sweepFences]
@[simp] theorem State.sweepFences_pulseWindow : (s.sweepFences).pulseWindow = s.pulseWindow := by
  simp [State.sweepFences]
@[simp] theorem State.sweepFences_boundaries : (s.sweepFences).boundaries = s.boundaries := by
  simp [State.sweepFences]
@[simp] theorem State.sweepFences_choices : (s.sweepFences).choices = s.choices := by
  simp [State.sweepFences]
@[simp] theorem State.sweepFences_pending : (s.sweepFences).pending = s.pending := by
  simp [State.sweepFences]

@[simp] theorem State.sweepFences_wires : (s.sweepFences).wires = s.wires := by
  simp [State.sweepFences]

/-! ## `State.voidFences` -/

@[simp] theorem State.voidFences_elapsed : (s.voidFences).elapsed = s.elapsed := by
  rfl
@[simp] theorem State.voidFences_row : (s.voidFences).row = s.row := by
  rfl
@[simp] theorem State.voidFences_selector : (s.voidFences).selector = s.selector := by
  rfl
@[simp] theorem State.voidFences_followers : (s.voidFences).followers = s.followers := by
  rfl
@[simp] theorem State.voidFences_racks : (s.voidFences).racks = s.racks := by
  rfl
@[simp] theorem State.voidFences_link : (s.voidFences).link = s.link := by
  rfl
@[simp] theorem State.voidFences_lines : (s.voidFences).lines = s.lines := by
  rfl
@[simp] theorem State.voidFences_pulseWindow : (s.voidFences).pulseWindow = s.pulseWindow := by
  rfl
@[simp] theorem State.voidFences_boundaries : (s.voidFences).boundaries = s.boundaries := by
  rfl
@[simp] theorem State.voidFences_choices : (s.voidFences).choices = s.choices := by
  rfl
@[simp] theorem State.voidFences_pending : (s.voidFences).pending = s.pending := by
  rfl

@[simp] theorem State.voidFences_wires : (s.voidFences).wires = s.wires := by
  rfl

/-! ## `State.insertFence` -/

@[simp] theorem State.insertFence_elapsed (i : FollowerId) (tag : Byte) (bound : Nat) : (s.insertFence i tag bound).elapsed = s.elapsed := by
  rfl
@[simp] theorem State.insertFence_row (i : FollowerId) (tag : Byte) (bound : Nat) : (s.insertFence i tag bound).row = s.row := by
  rfl
@[simp] theorem State.insertFence_selector (i : FollowerId) (tag : Byte) (bound : Nat) : (s.insertFence i tag bound).selector = s.selector := by
  rfl
@[simp] theorem State.insertFence_followers (i : FollowerId) (tag : Byte) (bound : Nat) : (s.insertFence i tag bound).followers = s.followers := by
  rfl
@[simp] theorem State.insertFence_racks (i : FollowerId) (tag : Byte) (bound : Nat) : (s.insertFence i tag bound).racks = s.racks := by
  rfl
@[simp] theorem State.insertFence_link (i : FollowerId) (tag : Byte) (bound : Nat) : (s.insertFence i tag bound).link = s.link := by
  rfl
@[simp] theorem State.insertFence_lines (i : FollowerId) (tag : Byte) (bound : Nat) : (s.insertFence i tag bound).lines = s.lines := by
  rfl
@[simp] theorem State.insertFence_pulseWindow (i : FollowerId) (tag : Byte) (bound : Nat) : (s.insertFence i tag bound).pulseWindow = s.pulseWindow := by
  rfl
@[simp] theorem State.insertFence_boundaries (i : FollowerId) (tag : Byte) (bound : Nat) : (s.insertFence i tag bound).boundaries = s.boundaries := by
  rfl
@[simp] theorem State.insertFence_choices (i : FollowerId) (tag : Byte) (bound : Nat) : (s.insertFence i tag bound).choices = s.choices := by
  rfl
@[simp] theorem State.insertFence_pending (i : FollowerId) (tag : Byte) (bound : Nat) : (s.insertFence i tag bound).pending = s.pending := by
  rfl

@[simp] theorem State.insertFence_wires (i : FollowerId) (tag : Byte) (bound : Nat) : (s.insertFence i tag bound).wires = s.wires := by
  rfl

/-! ## `State.removeCarried` -/

@[simp] theorem State.removeCarried_elapsed (l : List Nat) : (s.removeCarried l).elapsed = s.elapsed := by
  rfl
@[simp] theorem State.removeCarried_row (l : List Nat) : (s.removeCarried l).row = s.row := by
  rfl
@[simp] theorem State.removeCarried_selector (l : List Nat) : (s.removeCarried l).selector = s.selector := by
  rfl
@[simp] theorem State.removeCarried_followers (l : List Nat) : (s.removeCarried l).followers = s.followers := by
  rfl
@[simp] theorem State.removeCarried_racks (l : List Nat) : (s.removeCarried l).racks = s.racks := by
  rfl
@[simp] theorem State.removeCarried_link (l : List Nat) : (s.removeCarried l).link = s.link := by
  rfl
@[simp] theorem State.removeCarried_lines (l : List Nat) : (s.removeCarried l).lines = s.lines := by
  rfl
@[simp] theorem State.removeCarried_pulseWindow (l : List Nat) : (s.removeCarried l).pulseWindow = s.pulseWindow := by
  rfl
@[simp] theorem State.removeCarried_boundaries (l : List Nat) : (s.removeCarried l).boundaries = s.boundaries := by
  rfl
@[simp] theorem State.removeCarried_choices (l : List Nat) : (s.removeCarried l).choices = s.choices := by
  rfl
@[simp] theorem State.removeCarried_pending (l : List Nat) : (s.removeCarried l).pending = s.pending := by
  rfl

@[simp] theorem State.removeCarried_wires (l : List Nat) : (s.removeCarried l).wires = s.wires := by
  rfl

/-! ## `State.decrementBudget` -/

@[simp] theorem State.decrementBudget_elapsed (p : RackId) : (s.decrementBudget p).elapsed = s.elapsed := by
  unfold State.decrementBudget; dsimp only; split <;> simp
@[simp] theorem State.decrementBudget_row (p : RackId) : (s.decrementBudget p).row = s.row := by
  unfold State.decrementBudget; dsimp only; split <;> simp
@[simp] theorem State.decrementBudget_selector (p : RackId) : (s.decrementBudget p).selector = s.selector := by
  unfold State.decrementBudget; dsimp only; split <;> simp
@[simp] theorem State.decrementBudget_followers (p : RackId) : (s.decrementBudget p).followers = s.followers := by
  unfold State.decrementBudget; dsimp only; split <;> simp
@[simp] theorem State.decrementBudget_fences (p : RackId) : (s.decrementBudget p).fences = s.fences := by
  unfold State.decrementBudget; dsimp only; split <;> simp
@[simp] theorem State.decrementBudget_lines (p : RackId) : (s.decrementBudget p).lines = s.lines := by
  unfold State.decrementBudget; dsimp only; split <;> simp
@[simp] theorem State.decrementBudget_pulseWindow (p : RackId) : (s.decrementBudget p).pulseWindow = s.pulseWindow := by
  unfold State.decrementBudget; dsimp only; split <;> simp
@[simp] theorem State.decrementBudget_boundaries (p : RackId) : (s.decrementBudget p).boundaries = s.boundaries := by
  unfold State.decrementBudget; dsimp only; split <;> simp
@[simp] theorem State.decrementBudget_choices (p : RackId) : (s.decrementBudget p).choices = s.choices := by
  unfold State.decrementBudget; dsimp only; split <;> simp
@[simp] theorem State.decrementBudget_pending (p : RackId) : (s.decrementBudget p).pending = s.pending := by
  unfold State.decrementBudget; dsimp only; split <;> simp

@[simp] theorem State.decrementBudget_wires (p : RackId) : (s.decrementBudget p).wires = s.wires := by
  unfold State.decrementBudget; dsimp only; split <;> simp

/-! ## `State.endExchange` -/

@[simp] theorem State.endExchange_elapsed (p : RackId) (a : Activity) : (s.endExchange p a).elapsed = s.elapsed := by
  unfold State.endExchange; dsimp only; split; · rfl
  · split <;> simp
@[simp] theorem State.endExchange_row (p : RackId) (a : Activity) : (s.endExchange p a).row = s.row := by
  unfold State.endExchange; dsimp only; split; · rfl
  · split <;> simp
@[simp] theorem State.endExchange_selector (p : RackId) (a : Activity) : (s.endExchange p a).selector = s.selector := by
  unfold State.endExchange; dsimp only; split; · rfl
  · split <;> simp
@[simp] theorem State.endExchange_lines (p : RackId) (a : Activity) : (s.endExchange p a).lines = s.lines := by
  unfold State.endExchange; dsimp only; split; · rfl
  · split <;> simp
@[simp] theorem State.endExchange_pulseWindow (p : RackId) (a : Activity) : (s.endExchange p a).pulseWindow = s.pulseWindow := by
  unfold State.endExchange; dsimp only; split; · rfl
  · split <;> simp
@[simp] theorem State.endExchange_boundaries (p : RackId) (a : Activity) : (s.endExchange p a).boundaries = s.boundaries := by
  unfold State.endExchange; dsimp only; split; · rfl
  · split <;> simp
@[simp] theorem State.endExchange_choices (p : RackId) (a : Activity) : (s.endExchange p a).choices = s.choices := by
  unfold State.endExchange; dsimp only; split; · rfl
  · split <;> simp
@[simp] theorem State.endExchange_pending (p : RackId) (a : Activity) : (s.endExchange p a).pending = s.pending := by
  unfold State.endExchange; dsimp only; split; · rfl
  · split <;> simp

@[simp] theorem State.endExchange_wires (p : RackId) (a : Activity) : (s.endExchange p a).wires = s.wires := by
  unfold State.endExchange; dsimp only; split; · rfl
  · split <;> simp

/-! ## `State.faultExchange` -/

@[simp] theorem State.faultExchange_elapsed (p : RackId) (k : FaultKind) (attempt : Bool) : (s.faultExchange p k attempt).elapsed = s.elapsed := by
  unfold State.faultExchange; dsimp only; split; · rfl
  · split <;> simp
@[simp] theorem State.faultExchange_row (p : RackId) (k : FaultKind) (attempt : Bool) : (s.faultExchange p k attempt).row = s.row := by
  unfold State.faultExchange; dsimp only; split; · rfl
  · split <;> simp
@[simp] theorem State.faultExchange_selector (p : RackId) (k : FaultKind) (attempt : Bool) : (s.faultExchange p k attempt).selector = s.selector := by
  unfold State.faultExchange; dsimp only; split; · rfl
  · split <;> simp
@[simp] theorem State.faultExchange_lines (p : RackId) (k : FaultKind) (attempt : Bool) : (s.faultExchange p k attempt).lines = s.lines := by
  unfold State.faultExchange; dsimp only; split; · rfl
  · split <;> simp
@[simp] theorem State.faultExchange_pulseWindow (p : RackId) (k : FaultKind) (attempt : Bool) : (s.faultExchange p k attempt).pulseWindow = s.pulseWindow := by
  unfold State.faultExchange; dsimp only; split; · rfl
  · split <;> simp
@[simp] theorem State.faultExchange_boundaries (p : RackId) (k : FaultKind) (attempt : Bool) : (s.faultExchange p k attempt).boundaries = s.boundaries := by
  unfold State.faultExchange; dsimp only; split; · rfl
  · split <;> simp
@[simp] theorem State.faultExchange_choices (p : RackId) (k : FaultKind) (attempt : Bool) : (s.faultExchange p k attempt).choices = s.choices := by
  unfold State.faultExchange; dsimp only; split; · rfl
  · split <;> simp
@[simp] theorem State.faultExchange_pending (p : RackId) (k : FaultKind) (attempt : Bool) : (s.faultExchange p k attempt).pending = s.pending := by
  unfold State.faultExchange; dsimp only; split; · rfl
  · split <;> simp

@[simp] theorem State.faultExchange_wires (p : RackId) (k : FaultKind) (attempt : Bool) : (s.faultExchange p k attempt).wires = s.wires := by
  unfold State.faultExchange; dsimp only; split; · rfl
  · split <;> simp

/-! ## `State.crossPort` -/

@[simp] theorem State.crossPort_elapsed (p : RackId) : (s.crossPort p).elapsed = s.elapsed := by
  unfold State.crossPort; split <;> simp
@[simp] theorem State.crossPort_row (p : RackId) : (s.crossPort p).row = s.row := by
  unfold State.crossPort; split <;> simp
@[simp] theorem State.crossPort_selector (p : RackId) : (s.crossPort p).selector = s.selector := by
  unfold State.crossPort; split <;> simp
@[simp] theorem State.crossPort_lines (p : RackId) : (s.crossPort p).lines = s.lines := by
  unfold State.crossPort; split <;> simp
@[simp] theorem State.crossPort_pulseWindow (p : RackId) : (s.crossPort p).pulseWindow = s.pulseWindow := by
  unfold State.crossPort; split <;> simp
@[simp] theorem State.crossPort_boundaries (p : RackId) : (s.crossPort p).boundaries = s.boundaries := by
  unfold State.crossPort; split <;> simp
@[simp] theorem State.crossPort_choices (p : RackId) : (s.crossPort p).choices = s.choices := by
  unfold State.crossPort; split <;> simp
@[simp] theorem State.crossPort_pending (p : RackId) : (s.crossPort p).pending = s.pending := by
  unfold State.crossPort; split <;> simp

@[simp] theorem State.crossPort_wires (p : RackId) : (s.crossPort p).wires = s.wires := by
  unfold State.crossPort; split <;> simp

/-! ## `State.crossAll` -/

@[simp] theorem State.crossAll_elapsed : (s.crossAll).elapsed = s.elapsed := by
  have h := foldl_keeps State.crossPort State.elapsed (fun t p => t.crossPort_elapsed p) allRacks s
  simpa only [State.crossAll] using h
@[simp] theorem State.crossAll_row : (s.crossAll).row = s.row := by
  have h := foldl_keeps State.crossPort State.row (fun t p => t.crossPort_row p) allRacks s
  simpa only [State.crossAll] using h
@[simp] theorem State.crossAll_selector : (s.crossAll).selector = s.selector := by
  have h := foldl_keeps State.crossPort State.selector (fun t p => t.crossPort_selector p) allRacks s
  simpa only [State.crossAll] using h
@[simp] theorem State.crossAll_lines : (s.crossAll).lines = s.lines := by
  have h := foldl_keeps State.crossPort State.lines (fun t p => t.crossPort_lines p) allRacks s
  simpa only [State.crossAll] using h
@[simp] theorem State.crossAll_pulseWindow : (s.crossAll).pulseWindow = s.pulseWindow := by
  have h := foldl_keeps State.crossPort State.pulseWindow (fun t p => t.crossPort_pulseWindow p) allRacks s
  simpa only [State.crossAll] using h
@[simp] theorem State.crossAll_boundaries : (s.crossAll).boundaries = s.boundaries := by
  have h := foldl_keeps State.crossPort State.boundaries (fun t p => t.crossPort_boundaries p) allRacks s
  simpa only [State.crossAll] using h
@[simp] theorem State.crossAll_choices : (s.crossAll).choices = s.choices := by
  have h := foldl_keeps State.crossPort State.choices (fun t p => t.crossPort_choices p) allRacks s
  simpa only [State.crossAll] using h
@[simp] theorem State.crossAll_pending : (s.crossAll).pending = s.pending := by
  have h := foldl_keeps State.crossPort State.pending (fun t p => t.crossPort_pending p) allRacks s
  simpa only [State.crossAll] using h

@[simp] theorem State.crossAll_wires : (s.crossAll).wires = s.wires := by
  have h := foldl_keeps State.crossPort State.wires (fun t p => t.crossPort_wires p) allRacks s
  simpa only [State.crossAll] using h

/-! ## `State.leaveRunning` -/

@[simp] theorem State.leaveRunning_elapsed (p : RackId) (after : PortState) : (s.leaveRunning p after).elapsed = s.elapsed := by
  simp [State.leaveRunning]
@[simp] theorem State.leaveRunning_row (p : RackId) (after : PortState) : (s.leaveRunning p after).row = s.row := by
  simp [State.leaveRunning]
@[simp] theorem State.leaveRunning_selector (p : RackId) (after : PortState) : (s.leaveRunning p after).selector = s.selector := by
  simp [State.leaveRunning]
@[simp] theorem State.leaveRunning_lines (p : RackId) (after : PortState) : (s.leaveRunning p after).lines = s.lines := by
  simp [State.leaveRunning]
@[simp] theorem State.leaveRunning_pulseWindow (p : RackId) (after : PortState) : (s.leaveRunning p after).pulseWindow = s.pulseWindow := by
  simp [State.leaveRunning]
@[simp] theorem State.leaveRunning_boundaries (p : RackId) (after : PortState) : (s.leaveRunning p after).boundaries = s.boundaries := by
  simp [State.leaveRunning]
@[simp] theorem State.leaveRunning_choices (p : RackId) (after : PortState) : (s.leaveRunning p after).choices = s.choices := by
  simp [State.leaveRunning]
@[simp] theorem State.leaveRunning_pending (p : RackId) (after : PortState) : (s.leaveRunning p after).pending = s.pending := by
  simp [State.leaveRunning]

@[simp] theorem State.leaveRunning_wires (p : RackId) (after : PortState) : (s.leaveRunning p after).wires = s.wires := by
  simp [State.leaveRunning]

/-! ## `State.enablePort` -/

@[simp] theorem State.enablePort_elapsed (p : RackId) : (s.enablePort p).elapsed = s.elapsed := by
  unfold State.enablePort; dsimp only; split <;> simp
@[simp] theorem State.enablePort_row (p : RackId) : (s.enablePort p).row = s.row := by
  unfold State.enablePort; dsimp only; split <;> simp
@[simp] theorem State.enablePort_selector (p : RackId) : (s.enablePort p).selector = s.selector := by
  unfold State.enablePort; dsimp only; split <;> simp
@[simp] theorem State.enablePort_followers (p : RackId) : (s.enablePort p).followers = s.followers := by
  unfold State.enablePort; dsimp only; split <;> simp
@[simp] theorem State.enablePort_fences (p : RackId) : (s.enablePort p).fences = s.fences := by
  unfold State.enablePort; dsimp only; split <;> simp
@[simp] theorem State.enablePort_link (p : RackId) : (s.enablePort p).link = s.link := by
  unfold State.enablePort; dsimp only; split <;> simp
@[simp] theorem State.enablePort_lines (p : RackId) : (s.enablePort p).lines = s.lines := by
  unfold State.enablePort; dsimp only; split <;> simp
@[simp] theorem State.enablePort_pulseWindow (p : RackId) : (s.enablePort p).pulseWindow = s.pulseWindow := by
  unfold State.enablePort; dsimp only; split <;> simp
@[simp] theorem State.enablePort_boundaries (p : RackId) : (s.enablePort p).boundaries = s.boundaries := by
  unfold State.enablePort; dsimp only; split <;> simp
@[simp] theorem State.enablePort_choices (p : RackId) : (s.enablePort p).choices = s.choices := by
  unfold State.enablePort; dsimp only; split <;> simp
@[simp] theorem State.enablePort_pending (p : RackId) : (s.enablePort p).pending = s.pending := by
  unfold State.enablePort; dsimp only; split <;> simp

@[simp] theorem State.enablePort_wires (p : RackId) : (s.enablePort p).wires = s.wires := by
  unfold State.enablePort; dsimp only; split <;> simp

/-! ## `State.disablePort` -/

@[simp] theorem State.disablePort_elapsed (p : RackId) : (s.disablePort p).elapsed = s.elapsed := by
  unfold State.disablePort; dsimp only; split <;> simp
@[simp] theorem State.disablePort_row (p : RackId) : (s.disablePort p).row = s.row := by
  unfold State.disablePort; dsimp only; split <;> simp
@[simp] theorem State.disablePort_selector (p : RackId) : (s.disablePort p).selector = s.selector := by
  unfold State.disablePort; dsimp only; split <;> simp
@[simp] theorem State.disablePort_lines (p : RackId) : (s.disablePort p).lines = s.lines := by
  unfold State.disablePort; dsimp only; split <;> simp
@[simp] theorem State.disablePort_pulseWindow (p : RackId) : (s.disablePort p).pulseWindow = s.pulseWindow := by
  unfold State.disablePort; dsimp only; split <;> simp
@[simp] theorem State.disablePort_boundaries (p : RackId) : (s.disablePort p).boundaries = s.boundaries := by
  unfold State.disablePort; dsimp only; split <;> simp
@[simp] theorem State.disablePort_choices (p : RackId) : (s.disablePort p).choices = s.choices := by
  unfold State.disablePort; dsimp only; split <;> simp
@[simp] theorem State.disablePort_pending (p : RackId) : (s.disablePort p).pending = s.pending := by
  unfold State.disablePort; dsimp only; split <;> simp

@[simp] theorem State.disablePort_wires (p : RackId) : (s.disablePort p).wires = s.wires := by
  unfold State.disablePort; dsimp only; split <;> simp

/-! ## `State.epochAndBoundary` -/

@[simp] theorem State.epochAndBoundary_elapsed : (s.epochAndBoundary).elapsed = s.elapsed := by
  unfold State.epochAndBoundary; dsimp only; split <;> simp
@[simp] theorem State.epochAndBoundary_row : (s.epochAndBoundary).row = s.row := by
  unfold State.epochAndBoundary; dsimp only; split <;> simp
@[simp] theorem State.epochAndBoundary_selector : (s.epochAndBoundary).selector = s.selector := by
  unfold State.epochAndBoundary; dsimp only; split <;> simp
@[simp] theorem State.epochAndBoundary_fences : (s.epochAndBoundary).fences = s.fences := by
  unfold State.epochAndBoundary; dsimp only; split <;> simp
@[simp] theorem State.epochAndBoundary_lines : (s.epochAndBoundary).lines = s.lines := by
  unfold State.epochAndBoundary; dsimp only; split <;> simp
@[simp] theorem State.epochAndBoundary_pulseWindow : (s.epochAndBoundary).pulseWindow = s.pulseWindow := by
  unfold State.epochAndBoundary; dsimp only; split <;> simp
@[simp] theorem State.epochAndBoundary_boundaries : (s.epochAndBoundary).boundaries = s.boundaries := by
  unfold State.epochAndBoundary; dsimp only; split <;> simp
@[simp] theorem State.epochAndBoundary_pending : (s.epochAndBoundary).pending = s.pending := by
  unfold State.epochAndBoundary; dsimp only; split <;> simp

@[simp] theorem State.epochAndBoundary_wires : (s.epochAndBoundary).wires = s.wires := by
  unfold State.epochAndBoundary; dsimp only; split <;> simp

/-! ## `State.deliverStep` -/

@[simp] theorem State.deliverStep_elapsed (n : Nat) : (s.deliverStep n).elapsed = s.elapsed := by
  unfold State.deliverStep; dsimp only; split <;> simp
@[simp] theorem State.deliverStep_row (n : Nat) : (s.deliverStep n).row = s.row := by
  unfold State.deliverStep; dsimp only; split <;> simp
@[simp] theorem State.deliverStep_selector (n : Nat) : (s.deliverStep n).selector = s.selector := by
  unfold State.deliverStep; dsimp only; split <;> simp
@[simp] theorem State.deliverStep_lines (n : Nat) : (s.deliverStep n).lines = s.lines := by
  unfold State.deliverStep; dsimp only; split <;> simp
@[simp] theorem State.deliverStep_pulseWindow (n : Nat) : (s.deliverStep n).pulseWindow = s.pulseWindow := by
  unfold State.deliverStep; dsimp only; split <;> simp
@[simp] theorem State.deliverStep_pending (n : Nat) : (s.deliverStep n).pending = s.pending := by
  unfold State.deliverStep; dsimp only; split <;> simp

@[simp] theorem State.deliverStep_wires (n : Nat) : (s.deliverStep n).wires = s.wires := by
  unfold State.deliverStep; dsimp only; split <;> simp

/-! ## `State.stepRow` -/

@[simp] theorem State.stepRow_elapsed (e u : Nat) : (s.stepRow e u).elapsed = s.elapsed := by
  simp [State.stepRow]
@[simp] theorem State.stepRow_selector (e u : Nat) : (s.stepRow e u).selector = s.selector := by
  simp [State.stepRow]
@[simp] theorem State.stepRow_followers (e u : Nat) : (s.stepRow e u).followers = s.followers := by
  simp [State.stepRow]
@[simp] theorem State.stepRow_racks (e u : Nat) : (s.stepRow e u).racks = s.racks := by
  simp [State.stepRow]
@[simp] theorem State.stepRow_fences (e u : Nat) : (s.stepRow e u).fences = s.fences := by
  simp [State.stepRow]
@[simp] theorem State.stepRow_lines (e u : Nat) : (s.stepRow e u).lines = s.lines := by
  simp [State.stepRow]
@[simp] theorem State.stepRow_boundaries (e u : Nat) : (s.stepRow e u).boundaries = s.boundaries := by
  simp [State.stepRow]
@[simp] theorem State.stepRow_pending (e u : Nat) : (s.stepRow e u).pending = s.pending := by
  simp [State.stepRow]

@[simp] theorem State.stepRow_wires (e u : Nat) : (s.stepRow e u).wires = s.wires := by
  simp [State.stepRow]

/-! ## `State.stepMark` -/

@[simp] theorem State.stepMark_elapsed (e u : Nat) : (s.stepMark e u).elapsed = s.elapsed := by
  simp [State.stepMark]
@[simp] theorem State.stepMark_selector (e u : Nat) : (s.stepMark e u).selector = s.selector := by
  simp [State.stepMark]
@[simp] theorem State.stepMark_lines (e u : Nat) : (s.stepMark e u).lines = s.lines := by
  simp [State.stepMark]
@[simp] theorem State.stepMark_pending (e u : Nat) : (s.stepMark e u).pending = s.pending := by
  simp [State.stepMark]

@[simp] theorem State.stepMark_wires (e u : Nat) : (s.stepMark e u).wires = s.wires := by
  simp [State.stepMark]

/-! ## `State.slewMark` -/

@[simp] theorem State.slewMark_elapsed (e : Int) (u : Nat) : (s.slewMark e u).elapsed = s.elapsed := by
  simp [State.slewMark]
@[simp] theorem State.slewMark_selector (e : Int) (u : Nat) : (s.slewMark e u).selector = s.selector := by
  simp [State.slewMark]
@[simp] theorem State.slewMark_followers (e : Int) (u : Nat) : (s.slewMark e u).followers = s.followers := by
  simp [State.slewMark]
@[simp] theorem State.slewMark_racks (e : Int) (u : Nat) : (s.slewMark e u).racks = s.racks := by
  simp [State.slewMark]
@[simp] theorem State.slewMark_fences (e : Int) (u : Nat) : (s.slewMark e u).fences = s.fences := by
  simp [State.slewMark]
@[simp] theorem State.slewMark_lines (e : Int) (u : Nat) : (s.slewMark e u).lines = s.lines := by
  simp [State.slewMark]
@[simp] theorem State.slewMark_boundaries (e : Int) (u : Nat) : (s.slewMark e u).boundaries = s.boundaries := by
  simp [State.slewMark]
@[simp] theorem State.slewMark_choices (e : Int) (u : Nat) : (s.slewMark e u).choices = s.choices := by
  simp [State.slewMark]
@[simp] theorem State.slewMark_pending (e : Int) (u : Nat) : (s.slewMark e u).pending = s.pending := by
  simp [State.slewMark]

@[simp] theorem State.slewMark_wires (e : Int) (u : Nat) : (s.slewMark e u).wires = s.wires := by
  simp [State.slewMark]

/-! ## `State.usedMark` -/

@[simp] theorem State.usedMark_elapsed (e : Int) (u : Nat) : (s.usedMark e u).elapsed = s.elapsed := by
  unfold State.usedMark; split <;> simp
@[simp] theorem State.usedMark_selector (e : Int) (u : Nat) : (s.usedMark e u).selector = s.selector := by
  unfold State.usedMark; split <;> simp
@[simp] theorem State.usedMark_lines (e : Int) (u : Nat) : (s.usedMark e u).lines = s.lines := by
  unfold State.usedMark; split <;> simp
@[simp] theorem State.usedMark_pending (e : Int) (u : Nat) : (s.usedMark e u).pending = s.pending := by
  unfold State.usedMark; split <;> simp

@[simp] theorem State.usedMark_wires (e : Int) (u : Nat) : (s.usedMark e u).wires = s.wires := by
  unfold State.usedMark; split <;> simp

/-! ## `State.loseReference` -/

@[simp] theorem State.loseReference_elapsed : (s.loseReference).elapsed = s.elapsed := by
  unfold State.loseReference; split <;> simp
@[simp] theorem State.loseReference_selector : (s.loseReference).selector = s.selector := by
  unfold State.loseReference; split <;> simp
@[simp] theorem State.loseReference_followers : (s.loseReference).followers = s.followers := by
  unfold State.loseReference; split <;> simp
@[simp] theorem State.loseReference_racks : (s.loseReference).racks = s.racks := by
  unfold State.loseReference; split <;> simp
@[simp] theorem State.loseReference_fences : (s.loseReference).fences = s.fences := by
  unfold State.loseReference; split <;> simp
@[simp] theorem State.loseReference_lines : (s.loseReference).lines = s.lines := by
  unfold State.loseReference; split <;> simp
@[simp] theorem State.loseReference_pulseWindow : (s.loseReference).pulseWindow = s.pulseWindow := by
  unfold State.loseReference; split <;> simp
@[simp] theorem State.loseReference_boundaries : (s.loseReference).boundaries = s.boundaries := by
  unfold State.loseReference; split <;> simp
@[simp] theorem State.loseReference_choices : (s.loseReference).choices = s.choices := by
  unfold State.loseReference; split <;> simp
@[simp] theorem State.loseReference_pending : (s.loseReference).pending = s.pending := by
  unfold State.loseReference; split <;> simp

@[simp] theorem State.loseReference_wires : (s.loseReference).wires = s.wires := by
  unfold State.loseReference; split <;> simp

/-! ## `State.putInUse` -/

@[simp] theorem State.putInUse_elapsed (r : Reference) : (s.putInUse r).elapsed = s.elapsed := by
  rfl
@[simp] theorem State.putInUse_row (r : Reference) : (s.putInUse r).row = s.row := by
  rfl
@[simp] theorem State.putInUse_followers (r : Reference) : (s.putInUse r).followers = s.followers := by
  rfl
@[simp] theorem State.putInUse_racks (r : Reference) : (s.putInUse r).racks = s.racks := by
  rfl
@[simp] theorem State.putInUse_fences (r : Reference) : (s.putInUse r).fences = s.fences := by
  rfl
@[simp] theorem State.putInUse_lines (r : Reference) : (s.putInUse r).lines = s.lines := by
  rfl
@[simp] theorem State.putInUse_pulseWindow (r : Reference) : (s.putInUse r).pulseWindow = s.pulseWindow := by
  rfl
@[simp] theorem State.putInUse_boundaries (r : Reference) : (s.putInUse r).boundaries = s.boundaries := by
  rfl
@[simp] theorem State.putInUse_choices (r : Reference) : (s.putInUse r).choices = s.choices := by
  rfl
@[simp] theorem State.putInUse_pending (r : Reference) : (s.putInUse r).pending = s.pending := by
  rfl

@[simp] theorem State.putInUse_wires (r : Reference) : (s.putInUse r).wires = s.wires := by
  rfl

/-! ## `State.designate` -/

@[simp] theorem State.designate_elapsed : (s.designate).elapsed = s.elapsed := by
  unfold State.designate; split; · rfl
  · split <;> simp
@[simp] theorem State.designate_row : (s.designate).row = s.row := by
  unfold State.designate; split; · rfl
  · split <;> simp
@[simp] theorem State.designate_followers : (s.designate).followers = s.followers := by
  unfold State.designate; split; · rfl
  · split <;> simp
@[simp] theorem State.designate_racks : (s.designate).racks = s.racks := by
  unfold State.designate; split; · rfl
  · split <;> simp
@[simp] theorem State.designate_fences : (s.designate).fences = s.fences := by
  unfold State.designate; split; · rfl
  · split <;> simp
@[simp] theorem State.designate_lines : (s.designate).lines = s.lines := by
  unfold State.designate; split; · rfl
  · split <;> simp
@[simp] theorem State.designate_pulseWindow : (s.designate).pulseWindow = s.pulseWindow := by
  unfold State.designate; split; · rfl
  · split <;> simp
@[simp] theorem State.designate_boundaries : (s.designate).boundaries = s.boundaries := by
  unfold State.designate; split; · rfl
  · split <;> simp
@[simp] theorem State.designate_choices : (s.designate).choices = s.choices := by
  unfold State.designate; split; · rfl
  · split <;> simp
@[simp] theorem State.designate_pending : (s.designate).pending = s.pending := by
  unfold State.designate; split; · rfl
  · split <;> simp

@[simp] theorem State.designate_wires : (s.designate).wires = s.wires := by
  unfold State.designate; split; · rfl
  · split <;> simp

/-! ## `State.failover` -/

@[simp] theorem State.failover_elapsed : (s.failover).elapsed = s.elapsed := by
  unfold State.failover; split <;> simp
@[simp] theorem State.failover_followers : (s.failover).followers = s.followers := by
  unfold State.failover; split <;> simp
@[simp] theorem State.failover_racks : (s.failover).racks = s.racks := by
  unfold State.failover; split <;> simp
@[simp] theorem State.failover_fences : (s.failover).fences = s.fences := by
  unfold State.failover; split <;> simp
@[simp] theorem State.failover_lines : (s.failover).lines = s.lines := by
  unfold State.failover; split <;> simp
@[simp] theorem State.failover_pulseWindow : (s.failover).pulseWindow = s.pulseWindow := by
  unfold State.failover; split <;> simp
@[simp] theorem State.failover_boundaries : (s.failover).boundaries = s.boundaries := by
  unfold State.failover; split <;> simp
@[simp] theorem State.failover_choices : (s.failover).choices = s.choices := by
  unfold State.failover; split <;> simp
@[simp] theorem State.failover_pending : (s.failover).pending = s.pending := by
  unfold State.failover; split <;> simp

@[simp] theorem State.failover_wires : (s.failover).wires = s.wires := by
  unfold State.failover; split <;> simp

/-! ## `State.faultReference` -/

@[simp] theorem State.faultReference_elapsed (r : Reference) : (s.faultReference r).elapsed = s.elapsed := by
  unfold State.faultReference; dsimp only; split <;> simp
@[simp] theorem State.faultReference_followers (r : Reference) : (s.faultReference r).followers = s.followers := by
  unfold State.faultReference; dsimp only; split <;> simp
@[simp] theorem State.faultReference_racks (r : Reference) : (s.faultReference r).racks = s.racks := by
  unfold State.faultReference; dsimp only; split <;> simp
@[simp] theorem State.faultReference_fences (r : Reference) : (s.faultReference r).fences = s.fences := by
  unfold State.faultReference; dsimp only; split <;> simp
@[simp] theorem State.faultReference_lines (r : Reference) : (s.faultReference r).lines = s.lines := by
  unfold State.faultReference; dsimp only; split <;> simp
@[simp] theorem State.faultReference_pulseWindow (r : Reference) : (s.faultReference r).pulseWindow = s.pulseWindow := by
  unfold State.faultReference; dsimp only; split <;> simp
@[simp] theorem State.faultReference_boundaries (r : Reference) : (s.faultReference r).boundaries = s.boundaries := by
  unfold State.faultReference; dsimp only; split <;> simp
@[simp] theorem State.faultReference_choices (r : Reference) : (s.faultReference r).choices = s.choices := by
  unfold State.faultReference; dsimp only; split <;> simp
@[simp] theorem State.faultReference_pending (r : Reference) : (s.faultReference r).pending = s.pending := by
  unfold State.faultReference; dsimp only; split <;> simp

@[simp] theorem State.faultReference_wires (r : Reference) : (s.faultReference r).wires = s.wires := by
  unfold State.faultReference; dsimp only; split <;> simp

/-! ## `State.rejectMark` -/

@[simp] theorem State.rejectMark_elapsed (r : Reference) : (s.rejectMark r).elapsed = s.elapsed := by
  unfold State.rejectMark; dsimp only; split <;> simp
@[simp] theorem State.rejectMark_followers (r : Reference) : (s.rejectMark r).followers = s.followers := by
  unfold State.rejectMark; dsimp only; split <;> simp
@[simp] theorem State.rejectMark_racks (r : Reference) : (s.rejectMark r).racks = s.racks := by
  unfold State.rejectMark; dsimp only; split <;> simp
@[simp] theorem State.rejectMark_fences (r : Reference) : (s.rejectMark r).fences = s.fences := by
  unfold State.rejectMark; dsimp only; split <;> simp
@[simp] theorem State.rejectMark_lines (r : Reference) : (s.rejectMark r).lines = s.lines := by
  unfold State.rejectMark; dsimp only; split <;> simp
@[simp] theorem State.rejectMark_pulseWindow (r : Reference) : (s.rejectMark r).pulseWindow = s.pulseWindow := by
  unfold State.rejectMark; dsimp only; split <;> simp
@[simp] theorem State.rejectMark_boundaries (r : Reference) : (s.rejectMark r).boundaries = s.boundaries := by
  unfold State.rejectMark; dsimp only; split <;> simp
@[simp] theorem State.rejectMark_choices (r : Reference) : (s.rejectMark r).choices = s.choices := by
  unfold State.rejectMark; dsimp only; split <;> simp
@[simp] theorem State.rejectMark_pending (r : Reference) : (s.rejectMark r).pending = s.pending := by
  unfold State.rejectMark; dsimp only; split <;> simp

@[simp] theorem State.rejectMark_wires (r : Reference) : (s.rejectMark r).wires = s.wires := by
  unfold State.rejectMark; dsimp only; split <;> simp

/-! ## `State.passMark` -/

@[simp] theorem State.passMark_elapsed (r : Reference) (e : Int) (u : Nat) : (s.passMark r e u).elapsed = s.elapsed := by
  simp [State.passMark]
@[simp] theorem State.passMark_lines (r : Reference) (e : Int) (u : Nat) : (s.passMark r e u).lines = s.lines := by
  simp [State.passMark]
@[simp] theorem State.passMark_pending (r : Reference) (e : Int) (u : Nat) : (s.passMark r e u).pending = s.pending := by
  simp [State.passMark]

@[simp] theorem State.passMark_wires (r : Reference) (e : Int) (u : Nat) : (s.passMark r e u).wires = s.wires := by
  simp [State.passMark]

/-! ## `State.inUseMark` -/

@[simp] theorem State.inUseMark_elapsed (r : Reference) (e : Int) (u : Nat) : (s.inUseMark r e u).elapsed = s.elapsed := by
  unfold State.inUseMark; dsimp only; split; · rfl
  · split <;> simp
@[simp] theorem State.inUseMark_lines (r : Reference) (e : Int) (u : Nat) : (s.inUseMark r e u).lines = s.lines := by
  unfold State.inUseMark; dsimp only; split; · rfl
  · split <;> simp
@[simp] theorem State.inUseMark_pending (r : Reference) (e : Int) (u : Nat) : (s.inUseMark r e u).pending = s.pending := by
  unfold State.inUseMark; dsimp only; split; · rfl
  · split <;> simp

@[simp] theorem State.inUseMark_wires (r : Reference) (e : Int) (u : Nat) : (s.inUseMark r e u).wires = s.wires := by
  unfold State.inUseMark; dsimp only; split; · rfl
  · split <;> simp

/-! ## `State.inconsistentMark` -/

@[simp] theorem State.inconsistentMark_elapsed (r : Reference) : (s.inconsistentMark r).elapsed = s.elapsed := by
  unfold State.inconsistentMark; dsimp only; split <;> simp
@[simp] theorem State.inconsistentMark_followers (r : Reference) : (s.inconsistentMark r).followers = s.followers := by
  unfold State.inconsistentMark; dsimp only; split <;> simp
@[simp] theorem State.inconsistentMark_racks (r : Reference) : (s.inconsistentMark r).racks = s.racks := by
  unfold State.inconsistentMark; dsimp only; split <;> simp
@[simp] theorem State.inconsistentMark_fences (r : Reference) : (s.inconsistentMark r).fences = s.fences := by
  unfold State.inconsistentMark; dsimp only; split <;> simp
@[simp] theorem State.inconsistentMark_lines (r : Reference) : (s.inconsistentMark r).lines = s.lines := by
  unfold State.inconsistentMark; dsimp only; split <;> simp
@[simp] theorem State.inconsistentMark_pulseWindow (r : Reference) : (s.inconsistentMark r).pulseWindow = s.pulseWindow := by
  unfold State.inconsistentMark; dsimp only; split <;> simp
@[simp] theorem State.inconsistentMark_boundaries (r : Reference) : (s.inconsistentMark r).boundaries = s.boundaries := by
  unfold State.inconsistentMark; dsimp only; split <;> simp
@[simp] theorem State.inconsistentMark_choices (r : Reference) : (s.inconsistentMark r).choices = s.choices := by
  unfold State.inconsistentMark; dsimp only; split <;> simp
@[simp] theorem State.inconsistentMark_pending (r : Reference) : (s.inconsistentMark r).pending = s.pending := by
  unfold State.inconsistentMark; dsimp only; split <;> simp

@[simp] theorem State.inconsistentMark_wires (r : Reference) : (s.inconsistentMark r).wires = s.wires := by
  unfold State.inconsistentMark; dsimp only; split <;> simp

/-! ## `State.consistentMark` -/

@[simp] theorem State.consistentMark_elapsed (r : Reference) (m : Mark) : (s.consistentMark r m).elapsed = s.elapsed := by
  unfold State.consistentMark; dsimp only; split <;> simp
@[simp] theorem State.consistentMark_lines (r : Reference) (m : Mark) : (s.consistentMark r m).lines = s.lines := by
  unfold State.consistentMark; dsimp only; split <;> simp
@[simp] theorem State.consistentMark_pending (r : Reference) (m : Mark) : (s.consistentMark r m).pending = s.pending := by
  unfold State.consistentMark; dsimp only; split <;> simp

@[simp] theorem State.consistentMark_wires (r : Reference) (m : Mark) : (s.consistentMark r m).wires = s.wires := by
  unfold State.consistentMark; dsimp only; split <;> simp

/-! ## `State.judgeMark` -/

@[simp] theorem State.judgeMark_elapsed (r : Reference) (m : Mark) (c : Bool) : (s.judgeMark r m c).elapsed = s.elapsed := by
  unfold State.judgeMark; split <;> simp
@[simp] theorem State.judgeMark_lines (r : Reference) (m : Mark) (c : Bool) : (s.judgeMark r m c).lines = s.lines := by
  unfold State.judgeMark; split <;> simp
@[simp] theorem State.judgeMark_pending (r : Reference) (m : Mark) (c : Bool) : (s.judgeMark r m c).pending = s.pending := by
  unfold State.judgeMark; split <;> simp

@[simp] theorem State.judgeMark_wires (r : Reference) (m : Mark) (c : Bool) : (s.judgeMark r m c).wires = s.wires := by
  unfold State.judgeMark; split <;> simp

/-! ## `State.restartRow` -/

@[simp] theorem State.restartRow_elapsed : (s.restartRow).elapsed = s.elapsed := by
  unfold State.restartRow; dsimp only; rw [foldl_keeps State.driftRestart State.elapsed (fun t p => t.driftRestart_elapsed p)]; simp
@[simp] theorem State.restartRow_selector : (s.restartRow).selector = s.selector := by
  unfold State.restartRow; dsimp only; rw [foldl_keeps State.driftRestart State.selector (fun t p => t.driftRestart_selector p)]; simp
@[simp] theorem State.restartRow_lines : (s.restartRow).lines = s.lines := by
  unfold State.restartRow; dsimp only; rw [foldl_keeps State.driftRestart State.lines (fun t p => t.driftRestart_lines p)]; simp
@[simp] theorem State.restartRow_pulseWindow : (s.restartRow).pulseWindow = s.pulseWindow := by
  unfold State.restartRow; dsimp only; rw [foldl_keeps State.driftRestart State.pulseWindow (fun t p => t.driftRestart_pulseWindow p)]; simp
@[simp] theorem State.restartRow_boundaries : (s.restartRow).boundaries = s.boundaries := by
  unfold State.restartRow; dsimp only; rw [foldl_keeps State.driftRestart State.boundaries (fun t p => t.driftRestart_boundaries p)]; simp
@[simp] theorem State.restartRow_choices : (s.restartRow).choices = s.choices := by
  unfold State.restartRow; dsimp only; rw [foldl_keeps State.driftRestart State.choices (fun t p => t.driftRestart_choices p)]; simp
@[simp] theorem State.restartRow_pending : (s.restartRow).pending = s.pending := by
  unfold State.restartRow; dsimp only; rw [foldl_keeps State.driftRestart State.pending (fun t p => t.driftRestart_pending p)]; simp

@[simp] theorem State.restartRow_wires : (s.restartRow).wires = s.wires := by
  unfold State.restartRow; dsimp only; rw [foldl_keeps State.driftRestart State.wires (fun t p => t.driftRestart_wires p)]; simp

/-! ## `State.estimateStage` -/

@[simp] theorem State.estimateStage_elapsed (p : RackId) (i : FollowerId) (x : Timestamps) (c : Capture) (b : Bool) : (s.estimateStage p i x c b).elapsed = s.elapsed := by
  rfl
@[simp] theorem State.estimateStage_row (p : RackId) (i : FollowerId) (x : Timestamps) (c : Capture) (b : Bool) : (s.estimateStage p i x c b).row = s.row := by
  rfl
@[simp] theorem State.estimateStage_selector (p : RackId) (i : FollowerId) (x : Timestamps) (c : Capture) (b : Bool) : (s.estimateStage p i x c b).selector = s.selector := by
  rfl
@[simp] theorem State.estimateStage_racks (p : RackId) (i : FollowerId) (x : Timestamps) (c : Capture) (b : Bool) : (s.estimateStage p i x c b).racks = s.racks := by
  rfl
@[simp] theorem State.estimateStage_fences (p : RackId) (i : FollowerId) (x : Timestamps) (c : Capture) (b : Bool) : (s.estimateStage p i x c b).fences = s.fences := by
  rfl
@[simp] theorem State.estimateStage_link (p : RackId) (i : FollowerId) (x : Timestamps) (c : Capture) (b : Bool) : (s.estimateStage p i x c b).link = s.link := by
  rfl
@[simp] theorem State.estimateStage_lines (p : RackId) (i : FollowerId) (x : Timestamps) (c : Capture) (b : Bool) : (s.estimateStage p i x c b).lines = s.lines := by
  rfl
@[simp] theorem State.estimateStage_pulseWindow (p : RackId) (i : FollowerId) (x : Timestamps) (c : Capture) (b : Bool) : (s.estimateStage p i x c b).pulseWindow = s.pulseWindow := by
  rfl
@[simp] theorem State.estimateStage_boundaries (p : RackId) (i : FollowerId) (x : Timestamps) (c : Capture) (b : Bool) : (s.estimateStage p i x c b).boundaries = s.boundaries := by
  rfl
@[simp] theorem State.estimateStage_choices (p : RackId) (i : FollowerId) (x : Timestamps) (c : Capture) (b : Bool) : (s.estimateStage p i x c b).choices = s.choices := by
  rfl
@[simp] theorem State.estimateStage_pending (p : RackId) (i : FollowerId) (x : Timestamps) (c : Capture) (b : Bool) : (s.estimateStage p i x c b).pending = s.pending := by
  rfl

@[simp] theorem State.estimateStage_wires (p : RackId) (i : FollowerId) (x : Timestamps) (c : Capture) (b : Bool) : (s.estimateStage p i x c b).wires = s.wires := by
  rfl

/-! ## `State.settleStage` -/

@[simp] theorem State.settleStage_elapsed (p : RackId) (i : FollowerId) (theta : Int) (t4 : Nat) : (s.settleStage p i theta t4).elapsed = s.elapsed := by
  unfold State.settleStage; dsimp only; (repeat' split) <;> simp
@[simp] theorem State.settleStage_row (p : RackId) (i : FollowerId) (theta : Int) (t4 : Nat) : (s.settleStage p i theta t4).row = s.row := by
  unfold State.settleStage; dsimp only; (repeat' split) <;> simp
@[simp] theorem State.settleStage_selector (p : RackId) (i : FollowerId) (theta : Int) (t4 : Nat) : (s.settleStage p i theta t4).selector = s.selector := by
  unfold State.settleStage; dsimp only; (repeat' split) <;> simp
@[simp] theorem State.settleStage_racks (p : RackId) (i : FollowerId) (theta : Int) (t4 : Nat) : (s.settleStage p i theta t4).racks = s.racks := by
  unfold State.settleStage; dsimp only; (repeat' split) <;> simp
@[simp] theorem State.settleStage_fences (p : RackId) (i : FollowerId) (theta : Int) (t4 : Nat) : (s.settleStage p i theta t4).fences = s.fences := by
  unfold State.settleStage; dsimp only; (repeat' split) <;> simp
@[simp] theorem State.settleStage_lines (p : RackId) (i : FollowerId) (theta : Int) (t4 : Nat) : (s.settleStage p i theta t4).lines = s.lines := by
  unfold State.settleStage; dsimp only; (repeat' split) <;> simp
@[simp] theorem State.settleStage_pulseWindow (p : RackId) (i : FollowerId) (theta : Int) (t4 : Nat) : (s.settleStage p i theta t4).pulseWindow = s.pulseWindow := by
  unfold State.settleStage; dsimp only; (repeat' split) <;> simp
@[simp] theorem State.settleStage_boundaries (p : RackId) (i : FollowerId) (theta : Int) (t4 : Nat) : (s.settleStage p i theta t4).boundaries = s.boundaries := by
  unfold State.settleStage; dsimp only; (repeat' split) <;> simp
@[simp] theorem State.settleStage_choices (p : RackId) (i : FollowerId) (theta : Int) (t4 : Nat) : (s.settleStage p i theta t4).choices = s.choices := by
  unfold State.settleStage; dsimp only; (repeat' split) <;> simp
@[simp] theorem State.settleStage_pending (p : RackId) (i : FollowerId) (theta : Int) (t4 : Nat) : (s.settleStage p i theta t4).pending = s.pending := by
  unfold State.settleStage; dsimp only; (repeat' split) <;> simp

@[simp] theorem State.settleStage_wires (p : RackId) (i : FollowerId) (theta : Int) (t4 : Nat) : (s.settleStage p i theta t4).wires = s.wires := by
  unfold State.settleStage; dsimp only; (repeat' split) <;> simp

/-! ## `State.takeAck` -/

@[simp] theorem State.takeAck_elapsed (i : FollowerId) (k : OrderKind) (r : AckResult) : (s.takeAck i k r).elapsed = s.elapsed := by
  unfold State.takeAck; split <;> simp
@[simp] theorem State.takeAck_row (i : FollowerId) (k : OrderKind) (r : AckResult) : (s.takeAck i k r).row = s.row := by
  unfold State.takeAck; split <;> simp
@[simp] theorem State.takeAck_selector (i : FollowerId) (k : OrderKind) (r : AckResult) : (s.takeAck i k r).selector = s.selector := by
  unfold State.takeAck; split <;> simp
@[simp] theorem State.takeAck_racks (i : FollowerId) (k : OrderKind) (r : AckResult) : (s.takeAck i k r).racks = s.racks := by
  unfold State.takeAck; split <;> simp
@[simp] theorem State.takeAck_fences (i : FollowerId) (k : OrderKind) (r : AckResult) : (s.takeAck i k r).fences = s.fences := by
  unfold State.takeAck; split <;> simp
@[simp] theorem State.takeAck_lines (i : FollowerId) (k : OrderKind) (r : AckResult) : (s.takeAck i k r).lines = s.lines := by
  unfold State.takeAck; split <;> simp
@[simp] theorem State.takeAck_pulseWindow (i : FollowerId) (k : OrderKind) (r : AckResult) : (s.takeAck i k r).pulseWindow = s.pulseWindow := by
  unfold State.takeAck; split <;> simp
@[simp] theorem State.takeAck_boundaries (i : FollowerId) (k : OrderKind) (r : AckResult) : (s.takeAck i k r).boundaries = s.boundaries := by
  unfold State.takeAck; split <;> simp
@[simp] theorem State.takeAck_choices (i : FollowerId) (k : OrderKind) (r : AckResult) : (s.takeAck i k r).choices = s.choices := by
  unfold State.takeAck; split <;> simp
@[simp] theorem State.takeAck_pending (i : FollowerId) (k : OrderKind) (r : AckResult) : (s.takeAck i k r).pending = s.pending := by
  unfold State.takeAck; split <;> simp

@[simp] theorem State.takeAck_wires (i : FollowerId) (k : OrderKind) (r : AckResult) : (s.takeAck i k r).wires = s.wires := by
  unfold State.takeAck; split <;> simp

/-! ## `State.holdingReport` -/

@[simp] theorem State.holdingReport_elapsed (i : FollowerId) (b : Bool) : (s.holdingReport i b).elapsed = s.elapsed := by
  unfold State.holdingReport; dsimp only; split; · rfl
  · split <;> simp
@[simp] theorem State.holdingReport_row (i : FollowerId) (b : Bool) : (s.holdingReport i b).row = s.row := by
  unfold State.holdingReport; dsimp only; split; · rfl
  · split <;> simp
@[simp] theorem State.holdingReport_selector (i : FollowerId) (b : Bool) : (s.holdingReport i b).selector = s.selector := by
  unfold State.holdingReport; dsimp only; split; · rfl
  · split <;> simp
@[simp] theorem State.holdingReport_racks (i : FollowerId) (b : Bool) : (s.holdingReport i b).racks = s.racks := by
  unfold State.holdingReport; dsimp only; split; · rfl
  · split <;> simp
@[simp] theorem State.holdingReport_fences (i : FollowerId) (b : Bool) : (s.holdingReport i b).fences = s.fences := by
  unfold State.holdingReport; dsimp only; split; · rfl
  · split <;> simp
@[simp] theorem State.holdingReport_lines (i : FollowerId) (b : Bool) : (s.holdingReport i b).lines = s.lines := by
  unfold State.holdingReport; dsimp only; split; · rfl
  · split <;> simp
@[simp] theorem State.holdingReport_pulseWindow (i : FollowerId) (b : Bool) : (s.holdingReport i b).pulseWindow = s.pulseWindow := by
  unfold State.holdingReport; dsimp only; split; · rfl
  · split <;> simp
@[simp] theorem State.holdingReport_boundaries (i : FollowerId) (b : Bool) : (s.holdingReport i b).boundaries = s.boundaries := by
  unfold State.holdingReport; dsimp only; split; · rfl
  · split <;> simp
@[simp] theorem State.holdingReport_choices (i : FollowerId) (b : Bool) : (s.holdingReport i b).choices = s.choices := by
  unfold State.holdingReport; dsimp only; split; · rfl
  · split <;> simp
@[simp] theorem State.holdingReport_pending (i : FollowerId) (b : Bool) : (s.holdingReport i b).pending = s.pending := by
  unfold State.holdingReport; dsimp only; split; · rfl
  · split <;> simp

@[simp] theorem State.holdingReport_wires (i : FollowerId) (b : Bool) : (s.holdingReport i b).wires = s.wires := by
  unfold State.holdingReport; dsimp only; split; · rfl
  · split <;> simp

/-! ## `State.orderStage` -/

@[simp] theorem State.orderStage_elapsed (i : FollowerId) (o : Option OrderKind) (r : Reply) : (s.orderStage i o r).elapsed = s.elapsed := by
  unfold State.orderStage; (repeat' split) <;> simp
@[simp] theorem State.orderStage_row (i : FollowerId) (o : Option OrderKind) (r : Reply) : (s.orderStage i o r).row = s.row := by
  unfold State.orderStage; (repeat' split) <;> simp
@[simp] theorem State.orderStage_selector (i : FollowerId) (o : Option OrderKind) (r : Reply) : (s.orderStage i o r).selector = s.selector := by
  unfold State.orderStage; (repeat' split) <;> simp
@[simp] theorem State.orderStage_racks (i : FollowerId) (o : Option OrderKind) (r : Reply) : (s.orderStage i o r).racks = s.racks := by
  unfold State.orderStage; (repeat' split) <;> simp
@[simp] theorem State.orderStage_fences (i : FollowerId) (o : Option OrderKind) (r : Reply) : (s.orderStage i o r).fences = s.fences := by
  unfold State.orderStage; (repeat' split) <;> simp
@[simp] theorem State.orderStage_lines (i : FollowerId) (o : Option OrderKind) (r : Reply) : (s.orderStage i o r).lines = s.lines := by
  unfold State.orderStage; (repeat' split) <;> simp
@[simp] theorem State.orderStage_pulseWindow (i : FollowerId) (o : Option OrderKind) (r : Reply) : (s.orderStage i o r).pulseWindow = s.pulseWindow := by
  unfold State.orderStage; (repeat' split) <;> simp
@[simp] theorem State.orderStage_boundaries (i : FollowerId) (o : Option OrderKind) (r : Reply) : (s.orderStage i o r).boundaries = s.boundaries := by
  unfold State.orderStage; (repeat' split) <;> simp
@[simp] theorem State.orderStage_choices (i : FollowerId) (o : Option OrderKind) (r : Reply) : (s.orderStage i o r).choices = s.choices := by
  unfold State.orderStage; (repeat' split) <;> simp
@[simp] theorem State.orderStage_pending (i : FollowerId) (o : Option OrderKind) (r : Reply) : (s.orderStage i o r).pending = s.pending := by
  unfold State.orderStage; (repeat' split) <;> simp

@[simp] theorem State.orderStage_wires (i : FollowerId) (o : Option OrderKind) (r : Reply) : (s.orderStage i o r).wires = s.wires := by
  unfold State.orderStage; (repeat' split) <;> simp

/-! ## `State.clearBeforeVerdict` -/

@[simp] theorem State.clearBeforeVerdict_elapsed : (s.clearBeforeVerdict).elapsed = s.elapsed := by
  unfold State.clearBeforeVerdict; (repeat' split) <;> simp
@[simp] theorem State.clearBeforeVerdict_row : (s.clearBeforeVerdict).row = s.row := by
  unfold State.clearBeforeVerdict; (repeat' split) <;> simp
@[simp] theorem State.clearBeforeVerdict_selector : (s.clearBeforeVerdict).selector = s.selector := by
  unfold State.clearBeforeVerdict; (repeat' split) <;> simp
@[simp] theorem State.clearBeforeVerdict_followers : (s.clearBeforeVerdict).followers = s.followers := by
  unfold State.clearBeforeVerdict; (repeat' split) <;> simp
@[simp] theorem State.clearBeforeVerdict_racks : (s.clearBeforeVerdict).racks = s.racks := by
  unfold State.clearBeforeVerdict; (repeat' split) <;> simp
@[simp] theorem State.clearBeforeVerdict_link : (s.clearBeforeVerdict).link = s.link := by
  unfold State.clearBeforeVerdict; (repeat' split) <;> simp
@[simp] theorem State.clearBeforeVerdict_lines : (s.clearBeforeVerdict).lines = s.lines := by
  unfold State.clearBeforeVerdict; (repeat' split) <;> simp
@[simp] theorem State.clearBeforeVerdict_pulseWindow : (s.clearBeforeVerdict).pulseWindow = s.pulseWindow := by
  unfold State.clearBeforeVerdict; (repeat' split) <;> simp
@[simp] theorem State.clearBeforeVerdict_boundaries : (s.clearBeforeVerdict).boundaries = s.boundaries := by
  unfold State.clearBeforeVerdict; (repeat' split) <;> simp
@[simp] theorem State.clearBeforeVerdict_pending : (s.clearBeforeVerdict).pending = s.pending := by
  unfold State.clearBeforeVerdict; (repeat' split) <;> simp

@[simp] theorem State.clearBeforeVerdict_wires : (s.clearBeforeVerdict).wires = s.wires := by
  unfold State.clearBeforeVerdict; (repeat' split) <;> simp

/-! ## `State.answerAsks` -/

@[simp] theorem State.answerAsk_elapsed (p : RackId) (i : FollowerId) (c : Capture) (t3 : Nat) (a : Ask) : (s.answerAsk p i c t3 a).1.elapsed = s.elapsed := by
  cases a with
  | date => rfl
  | fence => simp only [State.answerAsk]; split <;> simp
@[simp] theorem State.answerAsks_elapsed (p : RackId) (i : FollowerId) (c : Capture) (t3 : Nat) (l : List Ask) : (s.answerAsks p i c t3 l).1.elapsed = s.elapsed := by
  induction l generalizing s with
  | nil => rfl
  | cons a l ih => simp [State.answerAsks, ih]
@[simp] theorem State.answerAsk_row (p : RackId) (i : FollowerId) (c : Capture) (t3 : Nat) (a : Ask) : (s.answerAsk p i c t3 a).1.row = s.row := by
  cases a with
  | date => rfl
  | fence => simp only [State.answerAsk]; split <;> simp
@[simp] theorem State.answerAsks_row (p : RackId) (i : FollowerId) (c : Capture) (t3 : Nat) (l : List Ask) : (s.answerAsks p i c t3 l).1.row = s.row := by
  induction l generalizing s with
  | nil => rfl
  | cons a l ih => simp [State.answerAsks, ih]
@[simp] theorem State.answerAsk_selector (p : RackId) (i : FollowerId) (c : Capture) (t3 : Nat) (a : Ask) : (s.answerAsk p i c t3 a).1.selector = s.selector := by
  cases a with
  | date => rfl
  | fence => simp only [State.answerAsk]; split <;> simp
@[simp] theorem State.answerAsks_selector (p : RackId) (i : FollowerId) (c : Capture) (t3 : Nat) (l : List Ask) : (s.answerAsks p i c t3 l).1.selector = s.selector := by
  induction l generalizing s with
  | nil => rfl
  | cons a l ih => simp [State.answerAsks, ih]
@[simp] theorem State.answerAsk_followers (p : RackId) (i : FollowerId) (c : Capture) (t3 : Nat) (a : Ask) : (s.answerAsk p i c t3 a).1.followers = s.followers := by
  cases a with
  | date => rfl
  | fence => simp only [State.answerAsk]; split <;> simp
@[simp] theorem State.answerAsks_followers (p : RackId) (i : FollowerId) (c : Capture) (t3 : Nat) (l : List Ask) : (s.answerAsks p i c t3 l).1.followers = s.followers := by
  induction l generalizing s with
  | nil => rfl
  | cons a l ih => simp [State.answerAsks, ih]
@[simp] theorem State.answerAsk_racks (p : RackId) (i : FollowerId) (c : Capture) (t3 : Nat) (a : Ask) : (s.answerAsk p i c t3 a).1.racks = s.racks := by
  cases a with
  | date => rfl
  | fence => simp only [State.answerAsk]; split <;> simp
@[simp] theorem State.answerAsks_racks (p : RackId) (i : FollowerId) (c : Capture) (t3 : Nat) (l : List Ask) : (s.answerAsks p i c t3 l).1.racks = s.racks := by
  induction l generalizing s with
  | nil => rfl
  | cons a l ih => simp [State.answerAsks, ih]
@[simp] theorem State.answerAsk_link (p : RackId) (i : FollowerId) (c : Capture) (t3 : Nat) (a : Ask) : (s.answerAsk p i c t3 a).1.link = s.link := by
  cases a with
  | date => rfl
  | fence => simp only [State.answerAsk]; split <;> simp
@[simp] theorem State.answerAsks_link (p : RackId) (i : FollowerId) (c : Capture) (t3 : Nat) (l : List Ask) : (s.answerAsks p i c t3 l).1.link = s.link := by
  induction l generalizing s with
  | nil => rfl
  | cons a l ih => simp [State.answerAsks, ih]
@[simp] theorem State.answerAsk_lines (p : RackId) (i : FollowerId) (c : Capture) (t3 : Nat) (a : Ask) : (s.answerAsk p i c t3 a).1.lines = s.lines := by
  cases a with
  | date => rfl
  | fence => simp only [State.answerAsk]; split <;> simp
@[simp] theorem State.answerAsks_lines (p : RackId) (i : FollowerId) (c : Capture) (t3 : Nat) (l : List Ask) : (s.answerAsks p i c t3 l).1.lines = s.lines := by
  induction l generalizing s with
  | nil => rfl
  | cons a l ih => simp [State.answerAsks, ih]
@[simp] theorem State.answerAsk_pulseWindow (p : RackId) (i : FollowerId) (c : Capture) (t3 : Nat) (a : Ask) : (s.answerAsk p i c t3 a).1.pulseWindow = s.pulseWindow := by
  cases a with
  | date => rfl
  | fence => simp only [State.answerAsk]; split <;> simp
@[simp] theorem State.answerAsks_pulseWindow (p : RackId) (i : FollowerId) (c : Capture) (t3 : Nat) (l : List Ask) : (s.answerAsks p i c t3 l).1.pulseWindow = s.pulseWindow := by
  induction l generalizing s with
  | nil => rfl
  | cons a l ih => simp [State.answerAsks, ih]
@[simp] theorem State.answerAsk_boundaries (p : RackId) (i : FollowerId) (c : Capture) (t3 : Nat) (a : Ask) : (s.answerAsk p i c t3 a).1.boundaries = s.boundaries := by
  cases a with
  | date => rfl
  | fence => simp only [State.answerAsk]; split <;> simp
@[simp] theorem State.answerAsks_boundaries (p : RackId) (i : FollowerId) (c : Capture) (t3 : Nat) (l : List Ask) : (s.answerAsks p i c t3 l).1.boundaries = s.boundaries := by
  induction l generalizing s with
  | nil => rfl
  | cons a l ih => simp [State.answerAsks, ih]
@[simp] theorem State.answerAsk_choices (p : RackId) (i : FollowerId) (c : Capture) (t3 : Nat) (a : Ask) : (s.answerAsk p i c t3 a).1.choices = s.choices := by
  cases a with
  | date => rfl
  | fence => simp only [State.answerAsk]; split <;> simp
@[simp] theorem State.answerAsks_choices (p : RackId) (i : FollowerId) (c : Capture) (t3 : Nat) (l : List Ask) : (s.answerAsks p i c t3 l).1.choices = s.choices := by
  induction l generalizing s with
  | nil => rfl
  | cons a l ih => simp [State.answerAsks, ih]
@[simp] theorem State.answerAsk_pending (p : RackId) (i : FollowerId) (c : Capture) (t3 : Nat) (a : Ask) : (s.answerAsk p i c t3 a).1.pending = s.pending := by
  cases a with
  | date => rfl
  | fence => simp only [State.answerAsk]; split <;> simp
@[simp] theorem State.answerAsk_wires (p : RackId) (i : FollowerId) (c : Capture) (t3 : Nat) (a : Ask) : (s.answerAsk p i c t3 a).1.wires = s.wires := by
  cases a with
  | date => rfl
  | fence => simp only [State.answerAsk]; split <;> simp
@[simp] theorem State.answerAsks_pending (p : RackId) (i : FollowerId) (c : Capture) (t3 : Nat) (l : List Ask) : (s.answerAsks p i c t3 l).1.pending = s.pending := by
  induction l generalizing s with
  | nil => rfl
  | cons a l ih => simp [State.answerAsks, ih]

@[simp] theorem State.answerAsks_wires (p : RackId) (i : FollowerId) (c : Capture) (t3 : Nat) (l : List Ask) : (s.answerAsks p i c t3 l).1.wires = s.wires := by
  induction l generalizing s with
  | nil => rfl
  | cons a l ih => simp [State.answerAsks, ih]

/-! ## `State.sendVerdict` -/

@[simp] theorem State.sendVerdict_elapsed (p : RackId) (x : Exchange) (l : List Notice) : (s.sendVerdict p x l).elapsed = s.elapsed := by
  rfl
@[simp] theorem State.sendVerdict_row (p : RackId) (x : Exchange) (l : List Notice) : (s.sendVerdict p x l).row = s.row := by
  rfl
@[simp] theorem State.sendVerdict_selector (p : RackId) (x : Exchange) (l : List Notice) : (s.sendVerdict p x l).selector = s.selector := by
  rfl
@[simp] theorem State.sendVerdict_followers (p : RackId) (x : Exchange) (l : List Notice) : (s.sendVerdict p x l).followers = s.followers := by
  rfl
@[simp] theorem State.sendVerdict_fences (p : RackId) (x : Exchange) (l : List Notice) : (s.sendVerdict p x l).fences = s.fences := by
  rfl
@[simp] theorem State.sendVerdict_link (p : RackId) (x : Exchange) (l : List Notice) : (s.sendVerdict p x l).link = s.link := by
  rfl
@[simp] theorem State.sendVerdict_lines (p : RackId) (x : Exchange) (l : List Notice) : (s.sendVerdict p x l).lines = s.lines := by
  rfl
@[simp] theorem State.sendVerdict_pulseWindow (p : RackId) (x : Exchange) (l : List Notice) : (s.sendVerdict p x l).pulseWindow = s.pulseWindow := by
  rfl
@[simp] theorem State.sendVerdict_boundaries (p : RackId) (x : Exchange) (l : List Notice) : (s.sendVerdict p x l).boundaries = s.boundaries := by
  rfl
@[simp] theorem State.sendVerdict_choices (p : RackId) (x : Exchange) (l : List Notice) : (s.sendVerdict p x l).choices = s.choices := by
  rfl
@[simp] theorem State.sendVerdict_pending (p : RackId) (x : Exchange) (l : List Notice) : (s.sendVerdict p x l).pending = s.pending := by
  rfl

@[simp] theorem State.sendVerdict_wires (p : RackId) (x : Exchange) (l : List Notice) : (s.sendVerdict p x l).wires = s.wires := by
  rfl

/-! ## `State.restartedAnnounce` -/

@[simp] theorem State.restartedAnnounce_elapsed (p : RackId) (b : Bool) : (s.restartedAnnounce p b).elapsed = s.elapsed := by
  unfold State.restartedAnnounce; split <;> rfl
@[simp] theorem State.restartedAnnounce_row (p : RackId) (b : Bool) : (s.restartedAnnounce p b).row = s.row := by
  unfold State.restartedAnnounce; split <;> rfl
@[simp] theorem State.restartedAnnounce_selector (p : RackId) (b : Bool) : (s.restartedAnnounce p b).selector = s.selector := by
  unfold State.restartedAnnounce; split <;> rfl
@[simp] theorem State.restartedAnnounce_followers (p : RackId) (b : Bool) : (s.restartedAnnounce p b).followers = s.followers := by
  unfold State.restartedAnnounce; split <;> rfl
@[simp] theorem State.restartedAnnounce_fences (p : RackId) (b : Bool) : (s.restartedAnnounce p b).fences = s.fences := by
  unfold State.restartedAnnounce; split <;> rfl
@[simp] theorem State.restartedAnnounce_link (p : RackId) (b : Bool) : (s.restartedAnnounce p b).link = s.link := by
  unfold State.restartedAnnounce; split <;> rfl
@[simp] theorem State.restartedAnnounce_lines (p : RackId) (b : Bool) : (s.restartedAnnounce p b).lines = s.lines := by
  unfold State.restartedAnnounce; split <;> rfl
@[simp] theorem State.restartedAnnounce_pulseWindow (p : RackId) (b : Bool) : (s.restartedAnnounce p b).pulseWindow = s.pulseWindow := by
  unfold State.restartedAnnounce; split <;> rfl
@[simp] theorem State.restartedAnnounce_boundaries (p : RackId) (b : Bool) : (s.restartedAnnounce p b).boundaries = s.boundaries := by
  unfold State.restartedAnnounce; split <;> rfl
@[simp] theorem State.restartedAnnounce_choices (p : RackId) (b : Bool) : (s.restartedAnnounce p b).choices = s.choices := by
  unfold State.restartedAnnounce; split <;> rfl
@[simp] theorem State.restartedAnnounce_pending (p : RackId) (b : Bool) : (s.restartedAnnounce p b).pending = s.pending := by
  unfold State.restartedAnnounce; split <;> rfl

@[simp] theorem State.restartedAnnounce_wires (p : RackId) (b : Bool) : (s.restartedAnnounce p b).wires = s.wires := by
  unfold State.restartedAnnounce; split <;> rfl

/-! ## `State.processReply` -/

@[simp] theorem State.processReply_elapsed (p : RackId) (x : Exchange) (c : Capture) (r : Reply) : (s.processReply p x c r).elapsed = s.elapsed := by
  unfold State.processReply; dsimp only; split <;> simp
@[simp] theorem State.processReply_row (p : RackId) (x : Exchange) (c : Capture) (r : Reply) : (s.processReply p x c r).row = s.row := by
  unfold State.processReply; dsimp only; split <;> simp
@[simp] theorem State.processReply_selector (p : RackId) (x : Exchange) (c : Capture) (r : Reply) : (s.processReply p x c r).selector = s.selector := by
  unfold State.processReply; dsimp only; split <;> simp
@[simp] theorem State.processReply_lines (p : RackId) (x : Exchange) (c : Capture) (r : Reply) : (s.processReply p x c r).lines = s.lines := by
  unfold State.processReply; dsimp only; split <;> simp
@[simp] theorem State.processReply_pulseWindow (p : RackId) (x : Exchange) (c : Capture) (r : Reply) : (s.processReply p x c r).pulseWindow = s.pulseWindow := by
  unfold State.processReply; dsimp only; split <;> simp
@[simp] theorem State.processReply_boundaries (p : RackId) (x : Exchange) (c : Capture) (r : Reply) : (s.processReply p x c r).boundaries = s.boundaries := by
  unfold State.processReply; dsimp only; split <;> simp
@[simp] theorem State.processReply_pending (p : RackId) (x : Exchange) (c : Capture) (r : Reply) : (s.processReply p x c r).pending = s.pending := by
  unfold State.processReply; dsimp only; split <;> simp

@[simp] theorem State.processReply_wires (p : RackId) (x : Exchange) (c : Capture) (r : Reply) : (s.processReply p x c r).wires = s.wires := by
  unfold State.processReply; dsimp only; split <;> simp

/-! ## `State.receiveReply` -/

@[simp] theorem State.receiveReply_elapsed (p : RackId) (x : Exchange) (c : Capture) (l : List Byte) : (s.receiveReply p x c l).elapsed = s.elapsed := by
  unfold State.receiveReply; dsimp only; (repeat' split) <;> simp
@[simp] theorem State.receiveReply_row (p : RackId) (x : Exchange) (c : Capture) (l : List Byte) : (s.receiveReply p x c l).row = s.row := by
  unfold State.receiveReply; dsimp only; (repeat' split) <;> simp
@[simp] theorem State.receiveReply_selector (p : RackId) (x : Exchange) (c : Capture) (l : List Byte) : (s.receiveReply p x c l).selector = s.selector := by
  unfold State.receiveReply; dsimp only; (repeat' split) <;> simp
@[simp] theorem State.receiveReply_lines (p : RackId) (x : Exchange) (c : Capture) (l : List Byte) : (s.receiveReply p x c l).lines = s.lines := by
  unfold State.receiveReply; dsimp only; (repeat' split) <;> simp
@[simp] theorem State.receiveReply_pulseWindow (p : RackId) (x : Exchange) (c : Capture) (l : List Byte) : (s.receiveReply p x c l).pulseWindow = s.pulseWindow := by
  unfold State.receiveReply; dsimp only; (repeat' split) <;> simp
@[simp] theorem State.receiveReply_boundaries (p : RackId) (x : Exchange) (c : Capture) (l : List Byte) : (s.receiveReply p x c l).boundaries = s.boundaries := by
  unfold State.receiveReply; dsimp only; (repeat' split) <;> simp
@[simp] theorem State.receiveReply_pending (p : RackId) (x : Exchange) (c : Capture) (l : List Byte) : (s.receiveReply p x c l).pending = s.pending := by
  unfold State.receiveReply; dsimp only; (repeat' split) <;> simp

@[simp] theorem State.receiveReply_wires (p : RackId) (x : Exchange) (c : Capture) (l : List Byte) : (s.receiveReply p x c l).wires = s.wires := by
  unfold State.receiveReply; dsimp only; (repeat' split) <;> simp

end Sys2Proof.Machine
end

