-- ==== Sys2Proof/Laws/Drift.lean ====
section
/-! SUPPORT. What Drift Watch's shared operations do to a counter, to a warning and to the rack they name (Chapter 10). -/

namespace Sys2Proof.Machine

variable (s : State)

/-! ## Counters (R152) -/

theorem Counter.count_of_prescale (c : Counter) (h : 0 < c.prescale) : c.count = { c with prescale := c.prescale - 1 } := by
  simp [Counter.count, h]

theorem Counter.count_of_main (c : Counter) (h : c.prescale = 0) (h' : 2 ≤ c.main) :
    c.count = { c with prescale := c.prescaleReload, main := c.main - 1 } := by
  have : ¬ c.main ≤ 1 := by omega
  simp [Counter.count, h, this]

theorem Counter.count_of_expiry (c : Counter) (h : c.prescale = 0) (h' : c.main ≤ 1) :
    c.count = { c.reload with standing := true } := by simp [Counter.count, h, h']

/-- Counting and reloading keep the reloads. -/
@[simp] theorem Counter.count_reloads (c : Counter) :
    c.count.mainReload = c.mainReload ∧ c.count.prescaleReload = c.prescaleReload := by
  unfold Counter.count; split
  · exact ⟨rfl, rfl⟩
  · split <;> exact ⟨rfl, rfl⟩

/-- A counter never rests at a main value of 0. -/
theorem Counter.count_main_pos (c : Counter) (h : 1 ≤ c.mainReload) (h' : 1 ≤ c.main) : 1 ≤ c.count.main := by
  unfold Counter.count; split
  · exact h'
  · split
    · exact h
    · show 1 ≤ c.main - 1; omega

@[simp] theorem Counter.reload_reload (c : Counter) : c.reload.reload = c.reload := rfl

/-! ## Expiries (R153, R154) -/

/-- What a taken persistence expiry leaves in the rack's drift fields. -/
def Drift.persistenceTaken (d : Drift) : Drift :=
  if d.persistence.standing then
    if d.warning.rank < d.state.level.rank then
      { d with persistence := d.persistence.taken, warning := d.state.level, acknowledged := false }
    else { d with persistence := d.persistence.taken }
  else d

/-- What a taken calm expiry leaves in the rack's drift fields. -/
def Drift.calmTaken (d : Drift) : Drift :=
  if d.calm.standing then
    if d.warning ≠ .none then { d with calm := d.calm.taken, warning := .none, acknowledged := false }
    else { d with calm := d.calm.taken }
  else d

theorem State.setDrift_self (p : RackId) : s.setDrift p (s.rack p).drift = s := by
  have h : s.racks.set p (s.rack p) = s.racks := by simp [State.rack]
  simp only [State.setDrift, State.setRack]
  have e : ({ s.rack p with drift := (s.rack p).drift } : Rack) = s.rack p := rfl
  rw [e, h]

@[simp] theorem State.rack_takePersistenceExpiry (p k : RackId) :
    (s.takePersistenceExpiry p).rack k =
      if p = k then { s.rack k with drift := (s.rack p).drift.persistenceTaken } else s.rack k := by
  unfold State.takePersistenceExpiry Drift.persistenceTaken
  dsimp only
  split
  · split <;> simp [State.rack_setDrift]
  · split
    · rename_i h; subst h; rfl
    · rfl

@[simp] theorem State.rack_takeCalmExpiry (p k : RackId) :
    (s.takeCalmExpiry p).rack k =
      if p = k then { s.rack k with drift := (s.rack p).drift.calmTaken } else s.rack k := by
  unfold State.takeCalmExpiry Drift.calmTaken
  dsimp only
  split
  · split <;> simp [State.rack_setDrift]
  · split
    · rename_i h; subst h; rfl
    · rfl

/-- The standing expiries of a rack are taken in its own drift fields, and in no other rack. -/
theorem State.rack_takeExpiries (p k : RackId) :
    (s.takeExpiries p).rack k =
      if p = k then { s.rack k with drift := (s.rack p).drift.persistenceTaken.calmTaken } else s.rack k := by
  unfold State.takeExpiries
  by_cases h : p = k <;> simp [h]

/-- Nothing stands, nothing is taken. -/
theorem State.takeExpiries_of_none (p : RackId) (h : (s.rack p).drift.persistence.standing = false)
    (h' : (s.rack p).drift.calm.standing = false) : s.takeExpiries p = s := by
  simp [State.takeExpiries, State.takePersistenceExpiry, State.takeCalmExpiry, h, h']

/-! ## Evaluation (R150) -/

/-- The members that an evaluation measures are read from the Follower Table alone. -/
theorem State.members_congr {s t : State} (h : s.followers = t.followers) (p : RackId) : s.members p = t.members p := by
  simp [State.members, h]

/-- The evaluation of a rack writes that rack's drift fields, unless its port is Disabled, and no other rack. -/
theorem State.rack_evaluateRack (p k : RackId) :
    (s.evaluateRack p).rack k =
      if p = k ∧ (s.port p).state ≠ .disabled then
        { s.rack k with drift := (s.rack p).drift.persistenceTaken.calmTaken.evaluate (s.members p) }
      else s.rack k := by
  unfold State.evaluateRack
  by_cases hd : (s.port p).state = .disabled
  · simp [hd]
  · have hm : (s.takeExpiries p).members p = s.members p := State.members_congr (by simp) p
    by_cases h : p = k
    · subst h; simp [hd, State.rack_takeExpiries, hm]
    · simp [hd, h, State.rack_setDrift, State.rack_takeExpiries]

end Sys2Proof.Machine
end

