-- ==== Sys2Proof/Laws/Fences.lean ====
section
/-! SUPPORT. What the Fence List's shared operations do to the list (Chapter 9). -/

namespace Sys2Proof.Machine

variable (s : State)

/-! ## Insertion (R135, R138) -/

/-- The list after an insertion holds the new fence and the old ones, and no other. -/
theorem insertByBound_perm (f : Fence) (l : List Fence) : (insertByBound f l).Perm (f :: l) := by
  induction l with
  | nil => exact .refl _
  | cons g rest ih =>
    unfold insertByBound
    split
    · exact (ih.cons g).trans (.swap f g rest)
    · exact .refl _

@[simp] theorem mem_insertByBound {f g : Fence} {l : List Fence} : g ∈ insertByBound f l ↔ g = f ∨ g ∈ l := by
  rw [(insertByBound_perm f l).mem_iff, List.mem_cons]

@[simp] theorem insertByBound_length (f : Fence) (l : List Fence) : (insertByBound f l).length = l.length + 1 :=
  (insertByBound_perm f l).length_eq

/-- An insertion keeps the order of bounds. -/
theorem insertByBound_ordered {f : Fence} {l : List Fence} (h : fencesOrdered l) : fencesOrdered (insertByBound f l) := by
  induction l with
  | nil => exact List.pairwise_singleton _ _
  | cons g rest ih =>
    obtain ⟨hg, hrest⟩ := List.pairwise_cons.mp h
    unfold insertByBound
    split
    · rename_i hle
      refine List.pairwise_cons.mpr ⟨fun x hx => ?_, ih hrest⟩
      rcases mem_insertByBound.mp hx with rfl | hx
      · exact hle
      · exact hg x hx
    · rename_i hlt
      refine List.pairwise_cons.mpr ⟨fun x hx => ?_, h⟩
      rcases List.mem_cons.mp hx with rfl | hx
      · omega
      · have := hg x hx; omega

/-- The fences after a Held answer. -/
theorem State.insertFence_list (i : FollowerId) (tag : Byte) (bound : Nat) :
    (s.insertFence i tag bound).fences.list =
      insertByBound ⟨i, tag, bound, .waiting, s.now, s.fences.nextSerial⟩ s.fences.list := rfl

/-! ## Changes of the fences that keep their bounds -/

/-- A change of fences that keeps each bound keeps the order of the list. -/
theorem fencesOrdered_map {g : Fence → Fence} (hg : ∀ f, (g f).bound = f.bound) {l : List Fence} (h : fencesOrdered l) :
    fencesOrdered (l.map g) := by
  unfold fencesOrdered
  rw [List.pairwise_map]
  exact h.imp fun hle => by rw [hg, hg]; exact hle

/-- A list from which fences are removed keeps its order. -/
theorem fencesOrdered_filter (p : Fence → Bool) {l : List Fence} (h : fencesOrdered l) : fencesOrdered (l.filter p) :=
  List.Pairwise.filter p h

@[simp] theorem State.clearFence_bound (f : Fence) : (s.clearFence f).bound = f.bound := by
  unfold State.clearFence; split <;> rfl

@[simp] theorem State.clearFence_follower (f : Fence) : (s.clearFence f).follower = f.follower := by
  unfold State.clearFence; split <;> rfl

@[simp] theorem State.clearFence_serial (f : Fence) : (s.clearFence f).serial = f.serial := by
  unfold State.clearFence; split <;> rfl

/-! ## The Due test and the wait (R139, R141) -/

theorem State.passesDue_iff (f : Fence) :
    s.passesDue f = true ↔ s.row.state ≠ .free ∧ unitsPerNs * (f.bound + s.row.currentUr) < s.row.fine := by
  simp [State.passesDue]

theorem State.clearable_iff (f : Fence) :
    s.clearable f = true ↔ f.state = .waiting ∧ s.row.state ≠ .free ∧ unitsPerNs * (f.bound + s.row.currentUr) < s.row.fine := by
  simp [State.clearable, State.passesDue]

theorem State.overdue_iff (f : Fence) :
    s.overdue f = true ↔ unitsPerNs * (f.lastChange + second * s.fences.waitMax) < s.row.fine := by
  simp only [State.overdue, Row.past, decide_eq_true_eq]

/-- A clearing leaves a fence as it is, or clears it where it passes the Due test (R139). -/
theorem State.clearFence_cases (f : Fence) :
    s.clearFence f = f ∨ (s.clearable f = true ∧ s.clearFence f = { f with state := .cleared, lastChange := s.now }) := by
  unfold State.clearFence
  split
  · rename_i hc; exact .inr ⟨hc, rfl⟩
  · exact .inl rfl

/-! ## Removal -/

theorem State.mem_removeCarried {serials : List Nat} {f : Fence} :
    f ∈ (s.removeCarried serials).fences.list ↔ f ∈ s.fences.list ∧ f.serial ∉ serials := by
  simp [State.removeCarried]

/-- A dropped fence leaves the list, is counted and raises the event (R142). -/
theorem State.dropFenceAt_eq (k : Nat) :
    s.dropFenceAt k = { s with
      fences := { s.fences with list := s.fences.list.eraseIdx k, dropped := s.fences.dropped + 1 }
      link := { s.link with events := { s.link.events with fenceDrop := true } } } := rfl

end Sys2Proof.Machine
end

