-- ==== Sys2Proof/Laws/Followers.lean ====
section
/-! SUPPORT. What the shared operations on follower records do to the records: to the one record they name, and to no other. -/

namespace Sys2Proof.Machine

variable (s : State)

/-! ## Notices (R70) -/

/-- The record after `noticeIf`. -/
def Follower.noticedIf (f : Follower) (c : Bool) : Follower := { f with noticed := f.noticed || c }

theorem State.follower_noticeIf (c : Bool) (i j : FollowerId) :
    (s.noticeIf c i).follower j = if i = j then (s.follower j).noticedIf c else s.follower j := by
  cases c
  · simp [State.noticeIf, Follower.noticedIf]
  · by_cases h : i = j
    · subst h; simp [State.noticeIf, State.notice, Follower.noticedIf]
    · simp [State.noticeIf, State.notice, State.follower_setFollower_ne s _ h, h]

@[simp] theorem State.follower_noticeIf_self (c : Bool) (i : FollowerId) :
    (s.noticeIf c i).follower i = (s.follower i).noticedIf c := by simp [State.follower_noticeIf]

theorem State.follower_noticeIf_ne (c : Bool) {i j : FollowerId} (h : i ≠ j) :
    (s.noticeIf c i).follower j = s.follower j := by simp [State.follower_noticeIf, h]

/-- A notice raises the follower notice event and no other (R70). -/
theorem State.noticeIf_link (c : Bool) (i : FollowerId) :
    (s.noticeIf c i).link = { s.link with events := { s.link.events with followerNotice := s.link.events.followerNotice || c } } := by
  cases c <;> simp [State.noticeIf, State.notice, Events.raise]

/-! ## The end of an order (R121) -/

/-- The record after the end of its pending order. -/
def Follower.ended (f : Follower) (how : OrderEnd) : Follower :=
  match f.pendingOrder with
  | none => f
  | some o => { f with pendingOrder := none, lastOutcome := some (how, o.kind), noticed := f.noticed || f.notify.onOrder }

@[simp] theorem State.follower_endOrder_self (i : FollowerId) (how : OrderEnd) :
    (s.endOrder i how).follower i = (s.follower i).ended how := by
  dsimp only [State.endOrder, Follower.ended]
  cases h : (s.follower i).pendingOrder <;> simp [Follower.noticedIf]

theorem State.follower_endOrder_ne {i j : FollowerId} (how : OrderEnd) (h : i ≠ j) :
    (s.endOrder i how).follower j = s.follower j := by
  dsimp only [State.endOrder]
  cases (s.follower i).pendingOrder <;> simp [State.follower_noticeIf_ne, State.follower_setFollower_ne, h]

/-! ## Attempts (R119) -/

/-- The record after one attempt is added to its pending order. -/
def Follower.attempted (f : Follower) : Follower :=
  match f.pendingOrder with
  | none => f
  | some o => if 3 ≤ o.attempts + 1 then f.ended .lost else { f with pendingOrder := some { o with attempts := o.attempts + 1 } }

@[simp] theorem State.follower_addAttempt_self (i : FollowerId) : (s.addAttempt i).follower i = (s.follower i).attempted := by
  dsimp only [State.addAttempt, Follower.attempted]
  cases h : (s.follower i).pendingOrder with
  | none => simp
  | some o => by_cases h3 : 3 ≤ o.attempts + 1 <;> simp [h3]

theorem State.follower_addAttempt_ne {i j : FollowerId} (h : i ≠ j) : (s.addAttempt i).follower j = s.follower j := by
  dsimp only [State.addAttempt]
  cases (s.follower i).pendingOrder with
  | none => rfl
  | some o => by_cases h3 : 3 ≤ o.attempts + 1 <;> simp [h3, State.follower_endOrder_ne, State.follower_setFollower_ne, h]

/-! ## Staleness (R66, R67) -/

@[simp] theorem State.follower_goStale_self (i : FollowerId) :
    (s.goStale i).follower i = { s.follower i with state := .stale, noticed := (s.follower i).noticed || (s.follower i).notify.onStale } := by
  simp [State.goStale, Follower.noticedIf]

theorem State.follower_goStale_ne {i j : FollowerId} (h : i ≠ j) : (s.goStale i).follower j = s.follower j := by
  simp [State.goStale, State.follower_noticeIf_ne, State.follower_setFollower_ne, h]

/-- A counted fault leaves the named record with its fault fields counted, Stale where it was Settling or Trusted and the faults have reached the limit (R66). -/
theorem State.follower_countFault_self (i : FollowerId) (k : FaultKind) :
    (s.countFault i k).follower i =
      let f := (s.follower i).countFault k
      if (f.state = .settling ∨ f.state = .trusted) ∧ (s.rack f.port).faultLimit ≤ f.consecutiveFaults
      then { f with state := .stale, noticed := f.noticed || f.notify.onStale } else f := by
  unfold State.countFault
  dsimp only [State.setFollower_rack]
  split <;> rename_i h <;> simp [h]

theorem State.follower_countFault_ne {i j : FollowerId} (k : FaultKind) (h : i ≠ j) :
    (s.countFault i k).follower j = s.follower j := by
  unfold State.countFault
  dsimp only
  split <;> simp [State.follower_goStale_ne, State.follower_setFollower_ne, h]

/-! ## Vacating (R63) -/

@[simp] theorem State.removeFencesOf_follower (i j : FollowerId) : (s.removeFencesOf i).follower j = s.follower j := rfl

/-- A vacated record holds power-on values but for the outcome of its last order and its noticed flag (R63). -/
@[simp] theorem State.follower_vacate_self (i : FollowerId) :
    (s.vacate i).follower i = ((s.follower i).ended .cancelled).vacated := by
  simp [State.vacate]

theorem State.follower_vacate_ne {i j : FollowerId} (h : i ≠ j) : (s.vacate i).follower j = s.follower j := by
  simp [State.vacate, State.follower_setFollower_ne, State.follower_endOrder_ne, h]

/-- Vacating removes exactly the fences of the record (R144). -/
@[simp] theorem State.vacate_fences (i : FollowerId) :
    (s.vacate i).fences = { s.fences with list := s.fences.list.filter fun x => x.follower != i } := by
  simp [State.vacate, State.removeFencesOf]

/-! ## Epochs (R69) -/

/-- Every record after the epoch of a forward step or a restart. -/
@[simp] theorem State.follower_rowEpochs (i : FollowerId) : s.rowEpochs.follower i = (s.follower i).rowEpoch s.now := by
  simp [State.follower, State.rowEpochs]

/-! ## Lookup -/

/-- What a lookup finds satisfies the predicate, and no lower index does. -/
theorem State.findFollower_some {p : Follower → Bool} {i : FollowerId} (h : s.findFollower p = some i) :
    p (s.follower i) = true ∧ ∀ j < i, p (s.follower j) = false := by
  unfold State.findFollower allFollowers at h
  obtain ⟨hp, k, hk, e, hlow⟩ := List.find?_eq_some_iff_getElem.mp h
  refine ⟨hp, fun j hj => ?_⟩
  simp only [List.getElem_finRange] at e
  have hjk : j.val < k := by rw [← e] at hj; exact hj
  have := hlow j.val hjk
  simpa using this

/-- A lookup that finds nothing shows that no record satisfies the predicate. -/
theorem State.findFollower_none {p : Follower → Bool} (h : s.findFollower p = none) (i : FollowerId) : p (s.follower i) = false := by
  unfold State.findFollower allFollowers at h
  have := List.find?_eq_none.mp h i (List.mem_finRange i)
  simpa using this

end Sys2Proof.Machine
end

