-- ==== Sys2Proof/Laws/LinkFrame.lean ====
section
/-! SUPPORT. What an event of the management link's wires can do: write where the link stands, end the frame, or run the command of the request that a byte completes (R159). -/

namespace Sys2Proof.Machine

theorem State.selectLink_of_closed {s : State} (h : s.link.frame = .closed) : s.selectLink = s.setFrame (.receiving []) := by
  simp [State.selectLink, h]

theorem State.selectLink_of_open {s : State} (h : s.link.frame ≠ .closed) : s.selectLink = s := by
  unfold State.selectLink; split <;> simp_all

/-- A byte that leaves the request incomplete. -/
theorem State.receiveByte_of_abort (s : State) {l l' : List Byte} (h : frameCommand l = .managementFrameAbort l') :
    s.receiveByte l = .next (s.setFrame (.receiving l)) := by
  simp [State.receiveByte, h]

/-- A byte that completes the request. -/
theorem State.receiveByte_of_request (s : State) {l : List Byte} (h : ∀ l', frameCommand l ≠ .managementFrameAbort l') :
    s.receiveByte l = exec (frameCommand l) s := by
  unfold State.receiveByte; split
  · exact absurd ‹_› (h _)
  · rfl

/-- The command of any bytes is a request, an UNKNOWN or an abort: never an event of another block, never a reset. -/
theorem frameCommand_is_request (l : List Byte) : ∃ bytes, requestBytes (frameCommand l) = some bytes := by
  unfold frameCommand
  split
  · exact ⟨_, rfl⟩
  · split
    · exact ⟨_, rfl⟩
    · split
      · exact ⟨_, rfl⟩
      · unfold requestCommand
        split <;> first | exact ⟨_, rfl⟩ | (unfold amendRackCommand; split; · exact ⟨_, rfl⟩
                                            · split <;> exact ⟨_, rfl⟩)

/-- Everything that one event of the wires can do. -/
theorem State.linkEvent_cases (s : State) (e : LinkEvent) :
    s.linkEvent e = .next s ∨ (∃ f, s.linkEvent e = .next (s.setFrame f)) ∨ s.linkEvent e = .next s.endFrame ∨
    ∃ l, s.linkEvent e = exec (frameCommand l) s := by
  cases e with
  | select =>
    by_cases h : s.link.frame = .closed
    · exact .inr (.inl ⟨_, congrArg _ (s.selectLink_of_closed h)⟩)
    · exact .inl (congrArg _ (s.selectLink_of_open h))
  | deselect => exact .inr (.inr (.inl rfl))
  | byte b =>
    simp only [State.linkEvent, State.clockByte]
    cases s.link.frame with
    | awaitRise => exact .inl rfl
    | closed => exact .inl rfl
    | taken n => exact .inr (.inl ⟨_, rfl⟩)
    | receiving l =>
      by_cases h : ∃ l', frameCommand (l ++ [b]) = .managementFrameAbort l'
      · exact .inr (.inl ⟨_, s.receiveByte_of_abort h.choose_spec⟩)
      · exact .inr (.inr (.inr ⟨_, s.receiveByte_of_request fun l' e => h ⟨l', e⟩⟩))

end Sys2Proof.Machine
end

