-- ==== Sys2Proof/Laws/Ports.lean ====
section
/-! SUPPORT. What the rack port engine's shared operations do to the port they name, to the record an exchange addresses, and to no other (Chapter 5). -/

namespace Sys2Proof.Machine

variable (s : State)

/-! ## The fault budget (R95) -/

/-- The port fields after a decrement of the fault budget counter. -/
def Port.spent (q : Port) : Port :=
  if q.budget ≤ 1 then { q with budget := q.budgetReload, degraded := q.degraded + 1 } else { q with budget := q.budget - 1 }

theorem State.port_decrementBudget (p k : RackId) :
    (s.decrementBudget p).port k = if p = k then (s.port k).spent else s.port k := by
  unfold State.decrementBudget Port.spent
  dsimp only
  by_cases h : p = k
  · subst h; split <;> simp
  · split <;> simp [State.port_setPort, h]

@[simp] theorem State.port_decrementBudget_self (p : RackId) : (s.decrementBudget p).port p = (s.port p).spent := by
  simp [State.port_decrementBudget]

@[simp] theorem State.follower_decrementBudget (p : RackId) (i : FollowerId) : (s.decrementBudget p).follower i = s.follower i := by
  unfold State.decrementBudget; dsimp only; split <;> simp

/-! ## The end of an exchange (R61, R90) -/

@[simp] theorem State.port_vacate (i : FollowerId) (p : RackId) : (s.vacate i).port p = s.port p := by
  unfold State.port State.rack; simp

/-- Ending an exchange leaves the port at rest with the activity given. -/
theorem State.port_endExchange (p k : RackId) (a : Activity) :
    (s.endExchange p a).port k =
      if p = k ∧ (s.port p).exchange.isSome = true then (s.port k).rest a else s.port k := by
  unfold State.endExchange
  cases h : (s.port p).exchange with
  | none => simp
  | some x =>
    dsimp only
    by_cases hk : p = k
    · subst hk; split <;> simp
    · split <;> simp [State.port_setPort, hk]

theorem State.endExchange_of_none {p : RackId} (a : Activity) (h : (s.port p).exchange = none) : s.endExchange p a = s := by
  simp [State.endExchange, h]

/-- The record that an ended exchange addressed becomes Vacant where it was Retiring, and stays otherwise. -/
theorem State.follower_endExchange {p : RackId} {x : Exchange} (a : Activity) (h : (s.port p).exchange = some x) (i : FollowerId) :
    (s.endExchange p a).follower i =
      if i = x.follower ∧ (s.follower i).state = .retiring then ((s.follower i).ended .cancelled).vacated else s.follower i := by
  unfold State.endExchange
  rw [h]
  dsimp only
  by_cases hr : (s.follower x.follower).state = .retiring
  · rw [if_pos (by simpa using hr)]
    by_cases hi : i = x.follower
    · subst hi; simp [hr]
    · simp [hi, State.follower_vacate_ne _ (Ne.symm hi)]
  · rw [if_neg (by simpa using hr)]
    have : ¬ (i = x.follower ∧ (s.follower i).state = .retiring) := fun ⟨e, h'⟩ => hr (e ▸ h')
    simp [this]

/-! ## Crossing (R96) -/

/-- A port whose exchange is crossed is Quiet for its reply window; a port with no exchange in flight stays. -/
theorem State.port_crossPort (p k : RackId) :
    (s.crossPort p).port k =
      if p = k ∧ (s.port p).exchange.isSome = true then
        { (s.port k).rest .quiet with quietEnd := some (s.elapsed + (s.port k).window) }
      else s.port k := by
  unfold State.crossPort
  cases h : (s.port p).exchange with
  | none => simp
  | some x =>
    dsimp only
    by_cases hk : p = k
    · subst hk; simp [State.port_endExchange, h, Port.window, Port.rest]
    · simp [State.port_setPort, hk, State.port_endExchange]

/-! ## Leaving Running (R77) -/

/-- A port that leaves Running has its frame cut off and its exchange, pending Announce and quiet window discarded. -/
theorem State.port_leaveRunning (p k : RackId) (after : PortState) :
    (s.leaveRunning p after).port k =
      if p = k then { (s.port k).rest .idle with state := after, pendingAnnounce := false, quietEnd := none } else s.port k := by
  unfold State.leaveRunning
  by_cases hk : p = k
  · subst hk
    by_cases h : (s.port p).exchange.isSome = true <;> simp [State.port_endExchange, h, Port.rest]
  · simp [State.port_setPort, hk, State.port_endExchange]

end Sys2Proof.Machine
end

