-- ==== Sys2Proof/Laws/RowClock.lean ====
section
/-! SUPPORT. What the Row Clock's shared operations do to the row record, to the events and to the Second pulse condition. -/

namespace Sys2Proof.Machine

variable (s : State)

/-! ## Row time -/

/-- Row time set to a value holds it, or the top of its range (R1). -/
@[simp] theorem Row.setFine_fine (r : Row) (v : Nat) : (r.setFine v).fine = min v topOfTime := by
  simp only [Row.setFine, Row.fine, unitsPerNs]
  exact Nat.div_add_mod _ _

/-- Setting row time writes its whole part and its fraction, nothing else. -/
theorem Row.setFine_keeps (r : Row) (v : Nat) :
    { r.setFine v with whole := r.whole, frac := r.frac } = r := rfl

/-- Row time at its own value, within its range, is set to itself. -/
theorem Row.setFine_self (r : Row) (hf : r.frac < unitsPerNs) (ht : r.fine ≤ topOfTime) : r.setFine r.fine = r := by
  have h : min r.fine topOfTime = r.fine := Nat.min_eq_left ht
  have hw : r.fine / unitsPerNs = r.whole := by
    unfold Row.fine; rw [Nat.mul_add_div (by decide), Nat.div_eq_of_lt hf, Nat.add_zero]
  have hr : r.fine % unitsPerNs = r.frac := by
    unfold Row.fine; rw [Nat.mul_add_mod, Nat.mod_eq_of_lt hf]
  simp only [Row.setFine, h, hw, hr]

/-- An advance never sets row time back (R14). -/
theorem Row.fine_le_advance (r : Row) (n : Nat) (h : r.fine ≤ topOfTime) : r.fine ≤ (r.advance n).fine := by
  simp only [Row.advance, Row.setFine_fine]
  exact le_min (Nat.le_add_right _ _) h

/-- A step never sets row time back (R19). -/
theorem Row.fine_le_stepBy (r : Row) (e : Nat) (h : r.fine ≤ topOfTime) : r.fine ≤ (r.stepBy e).fine := by
  simp only [Row.stepBy, Row.setFine_fine]
  exact le_min (Nat.le_add_right _ _) h

/-! ## The used mark -/

/-- The slew branch writes y, s, Ur, the row-set flag and the row state, raises the row state changed event where the state changes, and takes the Second pulse condition afresh; it writes nothing else (R20, R21, R32). -/
theorem State.slewMark_eq (e : Int) (u : Nat) :
    s.slewMark e u = { s with
      row := { s.row.slewWrites e u with state := s.row.slewState e u }
      link := { s.link with events :=
        { s.link.events with rowStateChanged := s.link.events.rowStateChanged || decide (s.row.state ≠ s.row.slewState e u) } }
      pulseWindow := ({ s.row.slewWrites e u with state := s.row.slewState e u } : Row).pulseCondition } := by
  by_cases h : s.row.state = s.row.slewState e u
  · simp [State.slewMark, State.enterRowState, State.raiseIf, State.refreshPulse, Row.slewWrites, h]
  · simp [State.slewMark, State.enterRowState, State.raiseIf, State.refreshPulse, Row.slewWrites, h, Events.raise]

/-- The step branch's own writes: the row record, the row state by R21, the row stepped event (R19, R21, R32). -/
theorem State.stepRow_row (e u : Nat) :
    (s.stepRow e u).row = { s.row.stepWrites e (s.heldInstant e) u with state := (s.row.stepWrites e (s.heldInstant e) u).lockedOr } := rfl

theorem State.stepRow_stepped (e u : Nat) : (s.stepRow e u).link.events.rowStepped = true := rfl

/-- Which branch a used mark takes (R18). -/
theorem State.usedMark_of_slew {e : Int} (u : Nat) (h : e ≤ s.row.stepLimit) : s.usedMark e u = s.slewMark e u := by
  simp only [State.usedMark, Row.steps, decide_eq_false (not_lt.mpr h), Bool.false_eq_true, if_false]

theorem State.usedMark_of_step {e : Int} (u : Nat) (h : (s.row.stepLimit : Int) < e) : s.usedMark e u = s.stepMark e.toNat u := by
  simp only [State.usedMark, Row.steps, decide_eq_true h, if_true]

/-! ## Entering a row state (R32) -/

/-- Entering a row state writes it, and raises the row state changed event exactly where it changes. -/
theorem State.enterRowState_eq (t : RowState) :
    s.enterRowState t = { s with
      row := { s.row with state := t }
      link := { s.link with events :=
        { s.link.events with rowStateChanged := s.link.events.rowStateChanged || decide (s.row.state ≠ t) } } } := by
  by_cases h : s.row.state = t
  · simp [State.enterRowState, State.raiseIf, h]
  · simp [State.enterRowState, State.raiseIf, h, Events.raise]

/-! ## Ur as readers take it (R24, R26) -/

theorem Row.currentUr_of_coasting (r : Row) (h : r.state = .holdover ∨ r.state = .free) :
    r.currentUr = saturateU (r.entryUr + growth r.wander (r.whole - r.entryTime)) := by
  rcases h with h | h <;> simp [Row.currentUr, h]

theorem Row.currentUr_of_held (r : Row) (h : r.state ≠ .holdover) (h' : r.state ≠ .free) : r.currentUr = r.ur := by
  unfold Row.currentUr; cases hs : r.state <;> simp_all

end Sys2Proof.Machine
end

