-- ==== Sys2Proof/Laws/Selector.lean ====
section
/-! SUPPORT. What the Reference Selector's shared operations do: which reference is designated, what replaces one that leaves Usable, and what its loss does to the row. -/

namespace Sys2Proof.Machine

variable (s : State)

/-! ## Records -/

@[simp] theorem Selector.setRef_setRef (x : Selector) (r : Reference) (v w : RefRecord) :
    (x.setRef r v).setRef r w = x.setRef r w := by cases r <;> rfl

@[simp] theorem State.setRef_setRef (r : Reference) (v w : RefRecord) : (s.setRef r v).setRef r w = s.setRef r w := by
  simp [State.setRef]

@[simp] theorem Selector.setRef_ref_self (x : Selector) (r : Reference) : x.setRef r (x.ref r) = x := by cases r <;> rfl

@[simp] theorem State.setRef_ref_self (r : Reference) : s.setRef r (s.ref r) = s := by simp [State.setRef, State.ref]

/-- A reference that the manual calls Usable. -/
theorem State.usable_iff (r : Reference) : s.usable r = true ↔ (s.ref r).state = .usable := by simp [State.usable]

/-- Whether a reference is Usable after one record is replaced. -/
theorem State.usable_setRef (r k : Reference) (v : RefRecord) :
    (s.setRef r v).usable k = if r = k then v.state == .usable else s.usable k := by
  unfold State.usable; rw [State.ref_setRef]; split <;> rfl

/-! ## The reference to designate (R45, R46) -/

/-- The reference to designate depends on the selector alone. -/
theorem State.candidate_congr {s t : State} (h : s.selector = t.selector) : s.candidate = t.candidate := by
  have hu : s.usable = t.usable := by funext r; simp [State.usable, State.ref, h]
  simp [State.candidate, State.usableBackup, hu, h]

/-- The selected reference where it is Usable, otherwise the backup where that is. -/
theorem State.candidate_eq_some (r : Reference) :
    s.candidate = some r ↔ s.usable r = true ∧
      (r = s.selector.selected ∨ (s.usable s.selector.selected = false ∧ s.selector.backup = some r)) := by
  unfold State.candidate State.usableBackup
  by_cases h : s.usable s.selector.selected = true
  · simp only [h, if_true, Option.some.injEq, Bool.true_eq_false, false_and, or_false]
    exact ⟨fun e => ⟨e ▸ h, e.symm⟩, fun e => e.2.symm⟩
  · rw [if_neg h, Option.filter_eq_some_iff]
    constructor
    · rintro ⟨e, hu⟩; exact ⟨hu, .inr ⟨by simpa using h, e⟩⟩
    · rintro ⟨hu, e | ⟨-, e⟩⟩
      · exact absurd (e ▸ hu) h
      · exact ⟨e, hu⟩

/-- No reference to designate: neither the selected nor the backup reference is Usable. -/
theorem State.candidate_eq_none :
    s.candidate = none ↔ s.usable s.selector.selected = false ∧ ∀ r, s.selector.backup = some r → s.usable r = false := by
  unfold State.candidate State.usableBackup
  by_cases h : s.usable s.selector.selected = true
  · simp [h]
  · simp [h, Option.filter_eq_none_iff]

/-- A reference put in use, field by field (R45 to R47). -/
theorem State.putInUse_eq (r : Reference) :
    s.putInUse r = { s with
      selector := { s.selector.setRef r { s.ref r with rejects := 0 } with inUse := some r, firstMark := true }
      link := { s.link with events := { s.link.events with referenceSwitched := true } } } := rfl

/-- Nothing is designated in Warming or while a reference is in use. -/
theorem State.designate_of_busy (h : s.row.state = .warming ∨ s.selector.inUse ≠ none) : s.designate = s := by
  simp [State.designate, h]

/-- Otherwise the one reference that R46 names is designated, if there is one. -/
theorem State.designate_of_free (h : s.row.state ≠ .warming) (h' : s.selector.inUse = none) :
    s.designate = match s.candidate with | some r => s.putInUse r | none => s := by
  refine (if_neg (by simp [h, h'])).trans ?_
  cases s.candidate <;> rfl

/-! ## Losing the reference (R25) -/

/-- A loss in Holdover, Free or Warming changes nothing. -/
theorem State.loseReference_of_idle (h : s.row.state ≠ .acquiring) (h' : s.row.state ≠ .locked) : s.loseReference = s := by
  unfold State.loseReference
  cases hs : s.row.state <;> simp_all

/-- A loss in Acquiring or Locked: Holdover or Free on the learned frequency, reported. -/
theorem State.loseReference_of_following (h : s.row.state = .acquiring ∨ s.row.state = .locked) :
    s.loseReference = { s with
      row := { s.row with
        entryTime := s.row.whole, entryUr := s.row.ur, s := s.row.y
        state := if s.row.urLimit < s.row.ur then .free else .holdover }
      link := { s.link with events := { s.link.events with rowStateChanged := true } } } := by
  rcases h with h | h <;>
    (simp only [State.loseReference, h]; by_cases hu : s.row.urLimit < s.row.ur <;>
      simp [State.enterRowState, State.raiseIf, Events.raise, hu])

/-! ## Faults (R41, R42, R44, R45) -/

/-- The fault of a reference that is not in use. -/
theorem State.faultReference_of_unused {r : Reference} (h : s.selector.inUse ≠ some r) :
    s.faultReference r = (s.setRef r { s.ref r with state := .faulted, qualifyCount := 0 }).raise .referenceFaulted := by
  simp [State.faultReference, h]

/-- The fault of the in-use reference: the replacement that R45 names, or the loss. -/
theorem State.faultReference_of_inUse {r : Reference} (h : s.selector.inUse = some r) :
    s.faultReference r = ((s.setRef r { s.ref r with state := .faulted, qualifyCount := 0 }).raise .referenceFaulted).failover := by
  simp [State.faultReference, h]

end Sys2Proof.Machine
end

