-- ==== Sys2Proof/Laws/Stages.lean ====
section
/-! SUPPORT. What the stages of a good exchange do to records, answers and fences, and when a management request takes effect. -/

namespace Sys2Proof.Machine

variable (s : State)

/-! ## Requests (R160, R161) -/

theorem State.request_of_ready (n : Nat) (effect : State → State) (h : s.link.ready = true) : s.request n effect = effect s := by
  simp [State.request, h]

theorem State.request_of_startUp (n : Nat) (effect : State → State) (h : s.link.ready = false) :
    s.request n effect = s.refuse .notReady n := by simp [State.request, h]

/-- A refusal changes the response alone, and with it where the link stands in its frame. -/
theorem State.refuse_eq (o : Outcome) (n : Nat) :
    s.refuse o n = { s with link := { s.link with response := o.code :: List.replicate n 0, frame := .taken 0 } } := rfl

/-! ## Publication (R107) -/

/-- A publication makes the new estimate the published one and leaves the slot published before. -/
@[simp] theorem Follower.published_publish (f : Follower) (e : Estimate) : (f.publish e).published = e := by
  unfold Follower.publish Follower.published; cases f.selector <;> rfl

theorem Follower.publish_keeps_published (f : Follower) (e : Estimate) :
    f.published = (match f.selector with | .a => (f.publish e).slotA | .b => (f.publish e).slotB) := by
  unfold Follower.publish Follower.published; cases f.selector <;> rfl

/-! ## Settling (R64, R65) -/

/-- Stage 2 touches no record but the one it names. -/
theorem State.follower_settleStage_ne (p : RackId) {i j : FollowerId} (theta : Int) (t4 : Nat) (h : i ≠ j) :
    (s.settleStage p i theta t4).follower j = s.follower j := by
  unfold State.settleStage
  dsimp only
  split
  all_goals first
    | rfl
    | (split_ifs <;> simp [State.follower_setFollower_ne, State.follower_noticeIf_ne, h])
    | simp [State.follower_setFollower_ne, h]

/-! ## Orders (R116 to R119) -/

theorem State.follower_takeAck_ne {i j : FollowerId} (k : OrderKind) (r : AckResult) (h : i ≠ j) :
    (s.takeAck i k r).follower j = s.follower j := by
  cases r <;> simp [State.takeAck, State.follower_endOrder_ne, State.follower_setFollower_ne, h]

theorem State.follower_holdingReport_ne {i j : FollowerId} (flag : Bool) (h : i ≠ j) :
    (s.holdingReport i flag).follower j = s.follower j := by
  unfold State.holdingReport
  dsimp only
  split_ifs <;> simp [State.follower_endOrder_ne, State.follower_setFollower_ne, h]

/-- Stage 3 touches no record but the one it names. -/
theorem State.follower_orderStage_ne {i j : FollowerId} (carried : Option OrderKind) (r : Reply) (h : i ≠ j) :
    (s.orderStage i carried r).follower j = s.follower j := by
  unfold State.orderStage
  split
  · split_ifs <;> simp [State.follower_takeAck_ne, State.follower_holdingReport_ne, State.follower_addAttempt_ne, h]
  · split_ifs <;> simp [State.follower_holdingReport_ne, State.follower_addAttempt_ne, h]

/-! ## Asks (R88, R123) -/

/-- One notice answers each ask. -/
@[simp] theorem State.answerAsks_length (p : RackId) (i : FollowerId) (c : Capture) (t3 : Nat) (asks : List Ask) :
    (s.answerAsks p i c t3 asks).2.length = asks.length := by
  induction asks generalizing s with
  | nil => rfl
  | cons a rest ih => simp [State.answerAsks, ih]

/-- Answering asks touches nothing but the Fence List. -/
theorem State.answerAsks_eq (p : RackId) (i : FollowerId) (c : Capture) (t3 : Nat) (asks : List Ask) :
    ∃ fences, (s.answerAsks p i c t3 asks).1 = { s with fences := fences } := by
  induction asks generalizing s with
  | nil => exact ⟨s.fences, rfl⟩
  | cons a rest ih =>
    simp only [State.answerAsks]
    have one : ∃ fences, (s.answerAsk p i c t3 a).1 = { s with fences := fences } := by
      cases a with
      | date tag capture => exact ⟨s.fences, rfl⟩
      | fence tag bound =>
        simp only [State.answerAsk]
        split_ifs
        · exact ⟨_, rfl⟩
        · exact ⟨s.fences, rfl⟩
    obtain ⟨l, hl⟩ := one
    obtain ⟨l', hl'⟩ := ih (s.answerAsk p i c t3 a).1
    exact ⟨l', by rw [hl', hl]⟩

/-! ## The Verdict (R83, R145) -/

/-- Building the Verdict writes the port alone. -/
theorem State.sendVerdict_keeps (p : RackId) (x : Exchange) (answers : List Notice) :
    { s.sendVerdict p x answers with racks := s.racks } = s := rfl

/-- A Verdict reports no fence that is Waiting, and none of another follower. -/
theorem State.mem_reportable {i : FollowerId} {room : Nat} {f : Fence} (h : f ∈ s.reportable i room) :
    f ∈ s.fences.list ∧ f.follower = i ∧ f.state ≠ .waiting := by
  have := List.mem_of_mem_take h
  simpa [State.reportable] using this

end Sys2Proof.Machine
end

