-- ==== Sys2Proof/Tests/Slice0.lean ====
section
/-! SUPPORT. The model's own tests: ill-formed commands refused by each check of WellFormed, frames and requests written out from the manual's layouts, the manual's worked cases replayed one step at a time, and for each obligation with hypotheses a concrete state and operands that meet all of them. -/

open Sys2Proof Sys2Proof.Machine

namespace Sys2Proof.Tests

set_option Elab.async false

/-! ## Small states -/

/-- The state that a command leaves. -/
def after (c : Instr) (s : State) : State :=
  match exec c s with
  | .next t => t
  | .fault _ | .refused _ => s

/-- The start-up interval has ended. -/
def ready : State := { State.reset with link := { Link.powerOn with startUp := 0, ready := true } }

/-- The row of the worked case of 5.9: Locked, Ur 270 ns, at row time 5,000,000,000,000. -/
def lockedRow : Row :=
  { Row.powerOn with whole := 5000000000000, warmUp := 0, state := .locked, rowSet := true, y := 2520, s := 3480, ur := 270 }

/-- Hall A in use, its last mark at row time 4,999,000,000,000. -/
def inUseHallA : Selector :=
  { Selector.powerOn with
    inUse := some .hallA
    hallA := { RefRecord.powerOn 0 with state := .usable, qualifyCount := 5, lastLabel := 4999000000000, lastArrival := 4999000000000, lastU := 150 } }

/-- A Locked row that follows Hall A. -/
def locked : State := { ready with row := lockedRow, selector := inUseHallA, boundaries := 49999 }

/-- Record 7 of 6.9 before its exchange: slot 12 of port 3, Storage, class 1, Trusted. -/
def record7 : Follower :=
  { Follower.powerOn with
    state := .trusted, port := 3, slot := 12, kind := .storage, periodClass := 1, settleReload := 3, settleCount := 0
    wander := 800, shift := 2, maxAge := 100000000, freshSince := 4999750046100, nextDue := 5000000000000, goodCount := 10
    slotA := ⟨true, 1195, 200, 3050, 3370, 4999750046100⟩, slotB := ⟨true, 1190, 190, 3050, 3370, 4999500046100⟩
    rateBase := true, notify := ⟨true, false, true⟩ }

/-- Port 3 of 5.9, Running and Idle, its last sequence number 117. -/
def port3 : Port := { Port.powerOn with state := .running, sequence := 117 }

/-- The fence of 5.9: tag 41 of record 7, Cleared. -/
def fence41 : Fence := ⟨7, 41, 4999999900000, .cleared, 4999999900270, 0⟩

/-- The part of 5.9 just before the sweep chooses record 7. -/
def scene : State :=
  { (locked.setFollower 7 record7).setPort 3 port3 with fences := { FenceList.powerOn with list := [fence41], nextSerial := 1 } }

/-- Row time set, at no fraction. -/
def at' (ns : Nat) (s : State) : State := { s with row := { s.row with whole := ns, frac := 0 } }

/-- The exchange of 5.9 in a phase. -/
def exchange (phase : Phase) (windowEnd : Option Nat) (reply : Option Capture) : Exchange :=
  ⟨7, 118, 5000000000000, phase, none, windowEnd, reply, [], []⟩

/-- The Probe of 5.9: slot 12, sequence 118, advice 1,195 ns and 200 RU, no order, with its check. -/
def probeOf59 : List Byte :=
  [0xA6, 0x01, 0x0E, 0x0C, 0x76, 0x01, 0x00, 0x00, 0x00, 0x00, 0x04, 0xAB, 0x00, 0x00, 0x00, 0xC8, 0x00, 0xB4, 0x6D]

/-- Port 3 with an exchange in flight. -/
def busy (x : Exchange) (transmitting : Option Transmission) : State :=
  (scene.setFollower 7 { record7 with nextDue := 5000250000000 }).setPort 3
    { port3 with activity := .exchange, sequence := 118, exchange := some x, transmitting := transmitting }

/-- The Probe is being sent. -/
def probing : State := busy (exchange .probe none none) (some ⟨probeOf59, 0⟩)

/-- The Probe has ended and the reply window runs. -/
def awaiting : State := at' 5000000004000 (busy (exchange .awaiting (some (elapsedNs 1000000)) none) none)

/-- The Reply's delimiter has arrived. -/
def replied : State := at' 5000000046100 (busy (exchange .awaiting none (some ⟨5000000046100, .locked, 270⟩)) none)

/-- The bytes of the Reply of 5.9, written out from the layout of R170; the last two are its check. -/
def replyOf59 : List Byte :=
  [0x02, 0x29, 0x0C, 0x76, 0x00, 0x00, 0x04, 0x8C, 0x27, 0x39, 0x60, 0x9A, 0x00, 0x00, 0x04, 0x8C, 0x27, 0x39, 0xFC, 0xDA,
   0x00, 0x00, 0x02, 0x01, 0x07, 0x00, 0x00, 0x04, 0x8C, 0x26, 0x08, 0xCF, 0xDA, 0x02, 0x2A, 0x00, 0x00, 0x04, 0x8C, 0x27,
   0x3A, 0x13, 0x50, 0x44, 0xD5]

/-- The Verdict is being sent. -/
def verdict : State := after (.replyReceptionEnd 3 replyOf59) (at' 5000000047000 replied)

/-! ## WellFormed refuses what cannot come about -/

theorem test_mark_longer_than_reception_is_ill_formed :
    (Instr.linkMarkReceptionEnd .hallA [0x00, 1, 2, 3, 4]).wf = false := by decide

theorem test_reply_longer_than_reception_is_ill_formed :
    (Instr.replyReceptionEnd 3 [0x02, 0x00, 1, 2, 3, 4]).wf = false := by decide

/-- Rack fields of zeros. -/
def noFields : RackOperands := ⟨0, 0, 0, 0, 0, 0, 0, 0, 0, 0, 0, 0, 0, 0, 0, 0, 0, 0, 0, 0⟩

theorem test_enable_unmarked_is_ill_formed : (Instr.portEnable 3 0 noFields).wf = false := by decide

theorem test_disable_with_enabled_one_is_ill_formed :
    (Instr.portDisable 3 1 { noFields with enabled := 0x01 }).wf = false := by decide

theorem test_parameters_with_enabled_marked_is_ill_formed :
    (Instr.amendRackParameters 3 1 { noFields with enabled := 0x01 }).wf = false := by decide

theorem test_known_code_is_no_unknown_request : (Instr.unknownRequest 0x7F).wf = false := by decide

theorem test_whole_frame_is_no_abort : (Instr.managementFrameAbort [0x12, 0x07]).wf = false := by decide

theorem test_well_formed_commands :
    ((Instr.linkMarkReceptionEnd .hallA [0x00, 1, 2, 3]).wf && (Instr.replyReceptionEnd 3 [0x02, 0x00, 1, 2, 3]).wf &&
      (Instr.portEnable 3 1 { noFields with enabled := 0x01 }).wf && (Instr.portDisable 3 1 noFields).wf &&
      (Instr.amendRackParameters 3 2 noFields).wf && (Instr.unknownRequest 0x99).wf && (Instr.managementFrameAbort [0x12]).wf) = true := by
  decide

/-! ## Frames and requests, byte by byte -/

/-- The check value of the generator x^16 + x^12 + x^5 + 1 from all ones over the digits 1 to 9 is 0x29B1. -/
theorem test_frame_check : frameCheck [0x31, 0x32, 0x33, 0x34, 0x35, 0x36, 0x37, 0x38, 0x39] = 0x29B1#16 := by decide +kernel

/-- The Reply of 5.9 reads as that case gives it. -/
theorem test_reply_of_5_9 : (match parseReply 12 118 replyOf59 with | .ok r => some r | .error _ => none) =
    some { t2 := 5000000004250, t3 := 5000000044250, holding := false, restarted := false, ack := none,
           asks := [.date 7 4999980044250, .fence 42 5000000050000] } := by decide +kernel

/-- A mark of 2.4, label 1,700,000,000,000,000,000 and declared u 80, byte by byte (R172). -/
def markOf24 : List Byte := [0x0C, 0x17, 0x97, 0x9C, 0xFE, 0x36, 0x2A, 0x00, 0x00, 0x00, 0x00, 0x00, 0x50, 0x1D, 0x52]

theorem test_mark_of_2_4 : parseMark markOf24 = some ⟨1700000000000000000, 80⟩ := by decide +kernel

theorem test_mute_bytes : frameCommand [0x12, 0x07] = .mute 7 := by decide
theorem test_order_bytes : frameCommand [0x18, 0x07, 0x01, 0xEE] = .order 7 1 := by decide
theorem test_enrol_bytes : frameCommand [0x10, 3, 12, 1, 1, 3, 0xFF, 0xFF, 0xFF, 0xFF, 0xFF, 0xFF, 0xFF, 1] =
    .enrol 3 12 ⟨1, 1, 3, 0xFFFF, 0xFF, 0xFFFFFFFF, 1⟩ := by decide
theorem test_amend_reference_bytes : frameCommand [0x34, 0, 0, 0, 0x09, 0x60, 0, 0, 0xC3, 0x50, 0, 0, 0, 0] =
    .amendReference 0 2400 50000 0 := by decide
theorem test_set_line_bytes : frameCommand [0x52, 2, 4, 1, 0, 0] = .setLine 2 4 1 0 0 := by decide
theorem test_identify_bytes : frameCommand [0x7F] = .identify := by decide
theorem test_unknown_bytes : frameCommand [0x99, 1, 2] = .unknownRequest 0x99 := by decide
theorem test_short_frame : frameCommand [0x18, 0x07] = .managementFrameAbort [0x18, 0x07] := by decide
theorem test_no_word_spells_a_command : decodeTableWord 8 0x12 = none := rfl

/-! ## Worked cases: the Row Clock -/

/-- 1.3: a second at 3,480 RU gains 217.5 ns. -/
theorem test_steer_over_one_second : ((lockedRow.advance (elapsedNs 1000000000)).whole, (lockedRow.advance (elapsedNs 1000000000)).frac) =
    (5001000000217, 2147483648) := by decide +kernel

/-- 1.6: growth. -/
theorem test_growth : (growth 800 20000000, growth 800 20000001, growth 1600 3600000000000, growth 1600 1) = (1, 2, 360000, 1) := by
  decide +kernel

/-- The four roundings of R6 on −7 / 2 and 7 / 2, and a half that nearest rounds up. -/
theorem test_roundings : (floorDiv (-7) 2, truncDiv (-7) 2, nearestDiv (-7) 2, ceilDiv 7 2, floorDiv (-480000) 16) = (-4, -3, -3, 4, -30000) := by
  decide +kernel

/-- 2.4: the warm-up ends with Hall A Usable. -/
def afterWarmUp : State :=
  after .warmUpEnd { ready with
    row := { Row.powerOn with whole := 180000000000, warmUp := 0 }
    selector := { Selector.powerOn with hallA := { RefRecord.powerOn 0 with
      state := .usable, qualifyCount := 5, compensation := 2400, lastLabel := 1699999999000000000, lastArrival := 179250000000 } } }

theorem test_warm_up_ends : (afterWarmUp.row.state, afterWarmUp.selector.inUse, afterWarmUp.link.events.rowStateChanged) =
    (.acquiring, some .hallA, true) := by decide +kernel

/-- 2.4: the first mark after warm-up, e = 1,699,999,819,750,002,400 and declared u 80. -/
theorem test_first_mark_steps :
    let s := (at' 180250000000 afterWarmUp).stepRow 1699999819750002400 80
    (s.row.whole, s.row.y, s.row.s, s.row.ur, s.row.state, s.row.lastStep) = (1700000000000002400, 0, 0, 80, .locked, 1699999819750002400) := by
  decide +kernel

/-- A mark whose error is 80,000 ns, which steps the row and passes no boundary. -/
def stepped : State :=
  after (.linkMarkReceptionEnd .hallA (markBytes ⟨5000000000000, 90⟩))
    ((at' 5000000050000 scene).setRef .hallA { inUseHallA.hallA with compensation := 130000, arriving := some 5000000050000 })

theorem test_step_reaches_row_and_reference :
    (stepped.row.whole, stepped.row.lastStep, stepped.row.ur, (stepped.ref .hallA).lastArrival, stepped.link.events.rowStepped) =
      (5000000130000, 80000, 90, 5000000130000, true) := by decide +kernel

theorem test_step_reaches_followers_and_ports :
    ((stepped.follower 7).state, (stepped.follower 7).settleCount, (stepped.follower 7).rateBase, (stepped.follower 7).freshSince,
      (stepped.port 3).pendingAnnounce) = (.settling, 3, false, 5000000130000, true) := by decide +kernel

/-- 2.4: discipline of a Locked row, e = 120 and declared u 150. -/
theorem test_discipline :
    let r := { lockedRow with y := 2400 }
    (r.steps 120, r.slewMemory 120, r.slewSteer 120, (r.slewWrites 120 150).ur, r.slewState 120 150) = (false, 2520, 3480, 270, .locked) := by
  decide +kernel

/-- 2.4: a row ahead of its reference, e = −200,000 and declared u 150. -/
theorem test_row_ahead :
    (lockedRow.slewMemory (-200000), lockedRow.slewSteer (-200000), (lockedRow.slewWrites (-200000) 150).ur, lockedRow.slewState (-200000) 150) =
      (-47480, -320000, 200150, .acquiring) := by decide +kernel

/-- A mark frame of label 5,000,000,000,000 and declared u 150 at the input of the reference in use. -/
def markAt (label declaredU : Nat) : List Byte := markBytes ⟨label, declaredU⟩

/-- 2.7: Ur in holdover from 270 ns. -/
def coasting : Row :=
  { lockedRow with state := .holdover, s := 2520, whole := 1700000500000000000 + 9997300000000, entryTime := 1700000500000000000, entryUr := 270 }

theorem test_holdover_reaches_limit :
    (coasting.currentUr, ({ locked with row := coasting } : State).freeDue, { coasting with whole := coasting.whole + 1 }.currentUr) =
      (1000000, false, 1000001) := by decide +kernel

theorem test_holdover_to_free :
    let s := after .holdoverToFree { locked with row := { coasting with whole := coasting.whole + 1 } }
    (s.row.state, s.row.s, s.link.events.rowStateChanged) = (.free, 2520, true) := by decide +kernel

/-- 2.9: RESTART-ROW in a Locked row, and in Warming. -/
theorem test_restart_row :
    let s := after .restartRow scene
    (s.row.state, s.row.s, s.row.ur, (s.port 3).pendingAnnounce, (s.follower 7).state, s.link.response) =
      (.acquiring, 2520, 4294967295, true, .settling, [0x01]) := by decide +kernel

theorem test_restart_refused_in_warming : (after .restartRow ready).link.response = [0x07] := by decide +kernel

/-- R13: a new H in Holdover rebases, so Ur does not move at the request. -/
theorem test_amend_row_rebases :
    let s := after (.amendRow 0x10 ⟨0, 0, 0, 0, 3200, 0, 0⟩) { locked with row := coasting }
    (s.row.currentUr, s.row.entryTime, s.row.wander) = (1000000, coasting.whole, 3200) := by decide +kernel

theorem test_amend_row_keeps_sanity_above_step :
    let s := after (.amendRow 0x03 ⟨300000, 250000, 0, 0, 0, 0, 0⟩) locked
    (s.row.stepLimit, s.row.sanityLimit) = (300000, 300000) := by decide +kernel

theorem test_boundary_strict :
    (locked.boundaryDue, ({ locked with row := { lockedRow with frac := 1 } } : State).boundaryDue) = (false, true) := by decide +kernel

theorem test_pulse_window :
    let s := { locked with row := { lockedRow with frac := 1 } }
    ((after .secondPulseWindowStart s).pulseWindow, (after .secondPulseWindowEnd { at' 5000001000001 s with pulseWindow := true }).pulseWindow) =
      (true, false) := by decide +kernel

theorem test_start_up_interval :
    let s := { State.reset with link := { Link.powerOn with startUp := 0 } }
    ((after .readRow s).link.response.head?, (after .readRow (after .startUpIntervalEnd s)).link.response.head?) = (some 0x09, some 0x01) := by
  decide +kernel

theorem test_power_on_reset : (after .powerOnReset scene).follower 7 = Follower.powerOn ∧ (after .powerOnReset scene).row.ur = 4294967295 := by
  decide +kernel

/-! ## Worked cases: the Reference Selector -/

/-- A link mark arrives at a row time and is received at once. -/
def mark (input : LinkInput) (arrival : Nat) (received : List Byte) (s : State) : State :=
  after (.linkMarkReceptionEnd input received) (after (.markDelimiterArrival input) (at' arrival s))

/-- 3.4: Hall B qualified up to its second mark of the case, L0 = 1,700,000,010,000,000,000. -/
def qualifying : State :=
  mark .hallB 4999500000000 (markAt 1700000011000000000 90) (mark .hallB 4998500000000 (markAt 1700000010000000000 90) locked)

/-- The state, count and last label of Hall B. -/
def hallB (s : State) : RefState × Nat × Nat := ((s.ref .hallB).state, (s.ref .hallB).qualifyCount, (s.ref .hallB).lastLabel)

theorem test_two_marks_qualify : hallB qualifying = (.qualifying, 2, 1700000011000000000) := by decide +kernel

theorem test_corrupted_mark_sets_back :
    hallB (mark .hallB 5000500000000 ((markAt 1700000012000000000 90).set 3 0) qualifying) = (.qualifying, 0, 1700000011000000000) := by
  decide +kernel

/-- 3.6: Hall A falls silent with the backup at count 4. -/
def silent : State :=
  after (.missingMarkExpiry .hallA) { at' 5001500000000 locked with
    row := { lockedRow with whole := 5001500000000, frac := 1 }
    selector := { inUseHallA with hallB := { RefRecord.powerOn 0 with
      state := .qualifying, qualifyCount := 4, lastLabel := 7000000000, lastArrival := 5001400000000 } } }

theorem test_silent_reference_is_lost :
    ((silent.ref .hallA).state, silent.selector.inUse, silent.row.state, silent.row.s, silent.row.entryUr, silent.link.events.referenceFaulted) =
      (.faulted, none, .holdover, 2520, 270, true) := by decide +kernel

/-- 3.6: the next Hall B mark makes it Usable and designates it, and is not used. -/
def designated : State := mark .hallB 5002400000000 (markAt 8000000000 120) silent

theorem test_usable_backup_is_designated :
    ((designated.ref .hallB).state, designated.selector.inUse, designated.row.state, designated.row.currentUr) =
      (.usable, some .hallB, .holdover, 360) := by decide +kernel

/-- 3.6: the first mark after designation shows e = 35,000 ns and is exempt. -/
theorem test_first_mark_after_designation :
    let v := designated.ref .hallB
    let s := mark .hallB 5003400000000 (markAt 9000000000 120) (designated.setRef .hallB { v with compensation := 4994400035000 })
    (s.row.y, s.row.s, s.row.ur, s.row.state) = (37520, 317520, 35120, .locked) := by decide +kernel

/-- 3.6: a reference that jumps by 300,000 ns, at its third such mark. -/
def jumping : State := { locked with selector := { inUseHallA with
  hallA := { inUseHallA.hallA with rejects := 2, compensation := 300000 }
  hallB := { RefRecord.powerOn 0 with state := .usable, qualifyCount := 5, lastArrival := 4999500000000 } } }

theorem test_third_rejection_faults :
    let s := mark .hallA 5000000000000 (markAt 5000000000000 150) jumping
    ((s.ref .hallA).state, (s.ref .hallA).rejects, s.selector.inUse, s.row.state, s.row.ur, s.link.events.referenceSwitched) =
      (.faulted, 3, some .hallB, .locked, 270, true) := by decide +kernel

/-- R39, R40: an edge 400 ns after a whole second of row time, compensation 400: label that second, error 0. -/
theorem test_pulse_edge_first_mark :
    let s := after .pulseEdge ({ at' 5000000000400 locked with
      selector := { inUseHallA with pulse := { RefRecord.powerOn 100 with compensation := 400 } } } : State)
    ((s.ref .pulse).state, (s.ref .pulse).lastLabel, (s.ref .pulse).lastError, (s.ref .pulse).lastU) = (.qualifying, 5000000000000, 0, 100) := by
  decide +kernel

theorem test_pulse_edge_discarded_before_set : (after .pulseEdge ready).ref .pulse = RefRecord.powerOn 100 := by decide +kernel

theorem test_select_swaps_backup :
    let s := after (.select 1) jumping
    (s.selector.selected, s.selector.backup, s.selector.inUse, s.link.response) = (.hallB, some .hallA, some .hallB, [0x01]) := by
  decide +kernel

theorem test_select_refuses_unusable : (after (.select 2) jumping).link.response = [0x07] := by decide +kernel

theorem test_set_backup :
    ((after (.setBackup 2) locked).selector.backup, (after (.setBackup 4) locked).selector.backup, (after (.setBackup 0) locked).link.response) =
      (some .neighbour, none, [0x07]) := by decide +kernel

theorem test_amend_reference_clamps :
    let v := (after (.amendReference 3 2000000 0 7) locked).ref .pulse
    (v.compensation, v.ceiling, v.fixedU) = (1000000, 1, 7) := by decide +kernel

theorem test_read_reference_length : (after (.readReference 0) locked).link.response.length = 46 := by decide +kernel

/-! ## Worked cases: the exchange of record 7 -/

/-- 5.9: the sweep chooses record 7 and its Probe is sent. -/
theorem test_exchange_start :
    let s := after (.exchangeStart 3) scene
    (s.port 3 = probing.port 3) ∧ (s.follower 7 = probing.follower 7) := by decide +kernel

theorem test_probe_end_starts_window : (after (.probeEnd 3) probing).port 3 = awaiting.port 3 := by decide +kernel

theorem test_reply_is_stamped : (after (.replyArrival 3) (at' 5000000046100 awaiting)).port 3 = replied.port 3 := by decide +kernel

/-- 6.9: the estimate published. -/
theorem test_estimate_published :
    ((verdict.follower 7).selector, (verdict.follower 7).slotB, (verdict.follower 7).slotA.t4, (verdict.follower 7).rateBase) =
      (.b, ⟨true, 1200, 230, 3050, 3370, 5000000046100⟩, 4999750046100, true) := by decide +kernel

theorem test_trusted_stays_trusted :
    ((verdict.follower 7).state, (verdict.follower 7).goodCount, (verdict.follower 7).freshSince) = (.trusted, 11, 5000000046100) := by
  decide +kernel

/-- 5.9: the three notices of the Verdict. -/
theorem test_verdict_notices :
    ((verdict.port 3).exchange.map (·.notices)) = some [.date 7 (.dated 4999980039679 4999980046421 false false), .fence 42 .held,
      .fenceState 41 4999999900000 .cleared] := by decide +kernel

/-- 5.9 and 9.8: the list after stage 4. -/
theorem test_held_fence_is_inserted : verdict.fences.list = [fence41, ⟨7, 42, 5000000050000, .waiting, 5000000047000, 1⟩] := by
  decide +kernel

theorem test_verdict_end_delivers :
    let s := after (.verdictEnd 3) verdict
    (s.fences.list.map (·.tag), (s.port 3).activity, (s.port 3).exchange) = ([42], .idle, none) := by decide +kernel

/-- 5.9: the Verdict's echo fails. -/
theorem test_echo_of_verdict :
    let s := after (.echoMismatch 3) verdict
    (s.fences.list.map (·.tag), (s.follower 7).state, (s.follower 7).consecutiveFaults, (s.follower 7).lastFault, (s.port 3).budget) =
      ([41, 42], .trusted, 1, some .echo, 31) := by decide +kernel

theorem test_corrupt_reply_fails_check :
    let s := after (.replyReceptionEnd 3 (replyOf59.set 30 0)) replied
    ((s.follower 7).lastFault, (s.follower 7).faultedCount, (s.follower 7).slotB.t4, (s.port 3).activity) = (some .check, 1, 4999500046100, .idle) := by
  decide +kernel

/-- R87 and R171: the defects of a Reply by name. -/
theorem test_reply_defects :
    ([parseReply 13 118 replyOf59, parseReply 12 117 replyOf59, parseReply 12 118 (replyOf59 ++ [0]), parseReply 12 118 []].map
      fun r => match r with | .error k => some k | .ok _ => none) = [some .stray, some .stray, some .overrun, some .check] := by decide +kernel

theorem test_timeout :
    let s := after (.replyWindowExpiry 3) { awaiting with elapsed := elapsedNs 1000000 }
    ((s.follower 7).lastFault, (s.follower 7).state, (s.port 3).activity, (s.port 3).budget) = (some .timeout, .trusted, .idle, 31) := by
  decide +kernel

/-- 4.13: the fourth consecutive fault makes the record Stale. -/
theorem test_fourth_fault_makes_stale :
    let s := after (.replyWindowExpiry 3) ({ awaiting with elapsed := elapsedNs 1000000 } : State)
    let s' := (awaiting.setFollower 7 { awaiting.follower 7 with consecutiveFaults := 3 })
    ((s.follower 7).state, ((after (.echoMismatch 3) (s'.setPort 3 (probing.port 3))).follower 7).state) = (.trusted, .stale) := by decide +kernel

/-- A pending STEP at its third attempt ends Lost (7.8). -/
theorem test_third_attempt_is_lost :
    let s := after (.exchangeStart 3) (scene.setFollower 7 { record7 with pendingOrder := some ⟨.step, 2⟩ })
    let t := after (.echoMismatch 3) s
    (((s.port 3).exchange.bind (·.order)), (t.follower 7).pendingOrder, (t.follower 7).lastOutcome, (t.follower 7).noticed) =
      (some .step, none, some (.lost, .step), true) := by decide +kernel

/-- 7.8: a Done of STEP takes an epoch and resettles. -/
theorem test_done_step :
    let s := (replied.setFollower 7 { record7 with pendingOrder := some ⟨.step, 0⟩ }).takeAck 7 .step .done
    ((s.follower 7).pendingOrder, (s.follower 7).lastOutcome, (s.follower 7).state, (s.follower 7).settleCount, (s.follower 7).rateBase) =
      (none, some (.done, .step), .settling, 3, false) := by decide +kernel

/-- 8.5: the same ask under other conditions. -/
def published7 : Follower := { record7 with slotB := ⟨true, 1200, 230, 3050, 3370, 5000000046100⟩, selector := .b }

theorem test_dates_of_8_5 :
    [dateAnswer .locked { published7 with slotB := { published7.slotB with rate := -230 } } Rack.powerOn 5000000044250 4999980044250,
     dateAnswer .locked published7 { Rack.powerOn with drift := { Drift.powerOn with warning := .watch } } 5000000044250 4999980044250,
     dateAnswer .locked published7 { Rack.powerOn with drift := { Drift.powerOn with warning := .drift } } 5000000044250 4999980044250] =
    [.dated 4999980039678 4999980046420 false false, .dated 4999980034679 4999980051421 false true,
     .dated 4999980019679 4999980066421 false true] := by decide +kernel

theorem test_refusals_of_8_5 :
    [dateAnswer .locked published7 { Rack.powerOn with drift := { Drift.powerOn with warning := .drift }, driftPolicy := .refuse } 5000000044250 4999980044250,
     dateAnswer .locked published7 Rack.powerOn 5000000044250 5000000044251,
     dateAnswer .locked { published7 with maxAge := 10000000 } Rack.powerOn 5000000044250 4999980044250,
     dateAnswer .locked published7 { Rack.powerOn with dateCeiling := 3000 } 5000000044250 4999980044250,
     dateAnswer .locked { published7 with state := .settling } Rack.powerOn 5000000044250 4999980044250,
     dateAnswer .free published7 Rack.powerOn 5000000044250 4999980044250] =
    [.rackDrift, .future, .tooOld, .tooUncertain, .notTrusted, .free] := by decide +kernel

/-! ## Fences -/

/-- 9.8: the list before the clearing. -/
def waiting : State :=
  { scene with fences := { FenceList.powerOn with
      list := [fence41, ⟨12, 3, 5000000050000, .waiting, 4999990000000, 1⟩, ⟨7, 42, 5000000050000, .waiting, 5000000047000, 2⟩,
               ⟨12, 4, 5000002000000, .waiting, 4999990000000, 3⟩], nextSerial := 4 } }

/-- Row time just above a whole instant. -/
def above (ns : Nat) (s : State) : State := { s with row := { s.row with whole := ns, frac := 1 } }

theorem test_clearing_of_9_8 :
    ((after .fenceClearing (above 5000000050270 waiting)).fences.list.map fun f => (f.tag, f.state, f.lastChange)) =
      [(41, .cleared, 4999999900270), (3, .cleared, 5000000050270), (42, .cleared, 5000000050270), (4, .waiting, 4999990000000)] := by
  decide +kernel

theorem test_clearing_is_strict : (at' 5000000050270 waiting).clearingDue = false := by decide +kernel

theorem test_expiry :
    ((after (.fenceExpiry 1) (above 5029990000000 waiting)).fences.list.map fun f => (f.tag, f.state)) =
      [(41, .cleared), (3, .voidedExpired), (42, .waiting), (4, .waiting)] := by decide +kernel

theorem test_drop :
    let s := after (.fenceDrop 0) (above 5029999900270 waiting)
    (s.fences.list.map (·.tag), s.fences.dropped, s.link.events.fenceDrop) = ([3, 42, 4], 1, true) := by decide +kernel

/-- R135: the new fence stands after every fence whose bound is not above its own. -/
theorem test_insertion_order : ((waiting.insertFence 7 99 5000000050000).fences.list.map (·.tag)) = [41, 3, 42, 99, 4] := by decide +kernel

theorem test_read_fence :
    ((after (.readFence 4) waiting).link.response.take 4, (after (.readFence 64) waiting).link.response.head?) = ([0x08, 0x04, 0x00, 0x00], some 0x06) := by
  decide +kernel

/-! ## Requests on followers -/

/-- 4.13: the enrolment of the case takes the lowest Vacant index. -/
theorem test_enrol :
    let s := after (.enrol 3 13 ⟨1, 9, 0, 0xFFFF, 0xFF, 0xFFFFFFFF, 1⟩) (scene.setFollower 0 record7)
    let f := s.follower 1
    (s.link.response, f.state, f.periodClass, f.settleCount, f.wander, f.nextDue) = ([0x01, 0x01], .settling, 4, 1, 800, 5000000000000) := by
  decide +kernel

theorem test_enrol_taken_and_range :
    ((after (.enrol 3 12 ⟨1, 1, 3, 0, 0, 0, 0⟩) scene).link.response, (after (.enrol 12 0 ⟨1, 1, 3, 0, 0, 0, 0⟩) scene).link.response) =
      ([0x05, 0x00], [0x06, 0x00]) := by decide +kernel

theorem test_amend_follower :
    let f := (after (.amendFollower 7 0x14 ⟨9, 9, 2, 0, 9, 0, 0⟩) scene).follower 7
    (f.settleReload, f.shift, f.kind, f.periodClass, f.settleCount) = (2, 7, .storage, 1, 0) := by decide +kernel

theorem test_mute_unmute :
    let s := after (.mute 7) scene
    ((s.follower 7).state, ((after (.unmute 7) s).follower 7).state, ((after (.unmute 7) s).follower 7).settleCount, (after (.unmute 7) scene).link.response) =
      (.muted, .settling, 3, [0x07]) := by decide +kernel

theorem test_retire_done :
    let s := after (.retire 7) scene
    ((s.follower 7).state, s.fences.list, s.link.response) = (.vacant, [], [0x01]) := by decide +kernel

theorem test_retire_pending :
    let s := after (.retire 7) awaiting
    let t := after (.echoMismatch 3) (s.setPort 3 (probing.port 3))
    ((s.follower 7).state, s.link.response, (t.follower 7).state, t.fences.list) = (.retiring, [0x02], .vacant, []) := by decide +kernel

theorem test_find_follower :
    ((after (.findFollower 3 12) scene).link.response, (after (.findFollower 3 11) scene).link.response, (after (.findFollower 3 40) scene).link.response) =
      ([0x01, 0x07, 0x02], [0x08, 0x00, 0x00], [0x06, 0x00, 0x00]) := by decide +kernel

theorem test_find_noticed :
    let s := after .findNoticed (scene.setFollower 7 { record7 with noticed := true, lastOutcome := some (.lost, .step) })
    (s.link.response, (s.follower 7).noticed) = ([0x01, 0x07, 0x02, 0x03, 0x01], false) := by decide +kernel

theorem test_order :
    let s := after (.order 7 1) scene
    ((s.follower 7).pendingOrder, (after (.order 7 2) s).link.response, (after (.order 0 2) s).link.response) =
      (some ⟨.step, 0⟩, [0x03], [0x07]) := by decide +kernel

theorem test_read_follower : (after (.readFollower 7) scene).link.response.take 5 = [0x01, 0x02, 0x03, 0x0C, 0x01] := by decide +kernel

/-! ## Ports -/

theorem test_announce_first :
    let s := after (.portEnable 4 1 noFields) locked
    let t := after (.announceStart 4) s
    ((s.port 4).state, (s.port 4).pendingAnnounce, (t.port 4).activity, ((t.port 4).transmitting.map fun x => x.frame.take 12)) =
      (.running, true, .announcing, some [0xA6, 0x04, 0x11, 0x00, 0x00, 0x04, 0x8C, 0x27, 0x39, 0x50, 0x00, 0x02]) := by decide +kernel

theorem test_announce_end :
    ((after (.announceEnd 4) (after (.announceStart 4) (after (.portEnable 4 1 noFields) locked))).port 4).activity = .idle := by
  decide +kernel

theorem test_port_disable_abandons :
    let s := after (.portDisable 3 1 noFields) awaiting
    ((s.port 3).state, (s.port 3).exchange, (s.port 3).activity, (s.follower 7).faultedCount) = (.disabled, none, .idle, 0) := by decide +kernel

theorem test_rack_parameters_clamp :
    let s := after (.amendRackParameters 3 0xE2 { noFields with replyWindow := 9000, trustOffset := 50, faultLimit := 99, budgetReload := 0 }) scene
    ((s.port 3).replyWindow, (s.rack 3).trustOffset, (s.rack 3).faultLimit, (s.port 3).budget) = (4000, 100, 15, 1) := by decide +kernel

theorem test_unsolicited_frame :
    let s := after (.unsolicitedFrame 3) (scene.setPort 3 { port3 with budget := 1 })
    ((s.port 3).unsolicited, (s.port 3).budget, (s.port 3).degraded, s.link.events.portDegraded) = (1, 32, 1, 0x008) := by decide +kernel

theorem test_crossing_and_quiet :
    let s := awaiting.crossAll
    let t := { s with elapsed := elapsedNs 1000000 }
    ((s.port 3).activity, (s.follower 7).faultedCount, ((after (.quietFrame 3) s).port 3).activity, ((after (.quietWindowEnd 3) s).port 3).activity,
      ((after (.quietWindowEnd 3) t).port 3).activity) = (.quiet, 0, .quiet, .quiet, .idle) := by decide +kernel

theorem test_transmit_guard :
    ((after (.transmitGuardTrip 3) { probing with elapsed := elapsedNs 400000 }).port 3).state = .running ∧
    ((after (.transmitGuardTrip 3) { probing with elapsed := 1 + elapsedNs 400000 }).port 3).state = .halted := by decide +kernel

theorem test_read_rack : (after (.readRack 3) scene).link.response.take 5 = [0x01, 0x01, 0x00, 0x75, 0x00] ∧
    (after (.readRack 3) scene).link.response.length = 79 := by decide +kernel

/-! ## Drift Watch -/

/-- 10.6: the four members of rack 3 at b1. -/
def warm : State :=
  let member (slot : Fin 40) (rate theta : Int) : Follower :=
    { record7 with slot := slot, freshSince := 5000000000000, slotA := ⟨true, theta, rate, 3050, 3370, 4999750046100⟩ }
  let s := (((scene.setFollower 7 (member 12 1100 (-2600))).setFollower 9 (member 13 900 800)).setFollower 14 (member 14 2300 1400)).setFollower 20
    (member 15 1700 300)
  above 5000000000000 (s.setDrift 3 { Drift.powerOn with state := .calm })

theorem test_boundary_of_10_6 :
    let d := ((after .boundaryEvent warm).rack 3).drift
    (d.members, d.meanRate, d.widest, d.state, d.persistence.main, d.persistence.prescale) = (4, 1500, 2600, .leaning, 30, 8) := by
  decide +kernel

/-- 10.6: the run that began at b1 expires at its last boundary, and the warning rises to Watch. -/
theorem test_persistence_expiry :
    let d : Drift := { Drift.powerOn with state := .leaning, persistence := ⟨1, 0, 30, 9, false⟩ }
    let s := after .boundaryEvent (warm.setDrift 3 d)
    let t := after (.persistenceExpiry 3) s
    ((s.rack 3).drift.persistence, (s.rack 3).drift.warning, (t.rack 3).drift.persistence, (t.rack 3).drift.warning, t.link.events.rackWarning) =
      (⟨30, 9, 30, 9, true⟩, .none, ⟨30, 9, 30, 9, false⟩, .watch, 0x008) := by decide +kernel

theorem test_calm_expiry :
    let d : Drift := { Drift.powerOn with warning := .drift, acknowledged := true, calm := ⟨60, 9, 60, 9, true⟩ }
    let s := after (.calmExpiry 3) (scene.setDrift 3 d)
    ((s.rack 3).drift.warning, (s.rack 3).drift.acknowledged, s.link.events.rackWarning) = (.none, false, 0x008) := by decide +kernel

theorem test_ack_warning :
    let s := scene.setDrift 3 { Drift.powerOn with warning := .watch }
    (((after (.ackWarning 3) s).rack 3).drift.acknowledged, (after (.ackWarning 3) scene).link.response, (after (.ackWarning 12) s).link.response) =
      (true, [0x07], [0x06]) := by decide +kernel

/-- R67: age beyond 8 base periods makes a record Stale at a boundary. -/
theorem test_age_makes_stale :
    let s := above 5002000000000 (scene.setFollower 7 { record7 with freshSince := 5000000000000 })
    let t := above 5002000000001 s
    (((after .boundaryEvent s).follower 7).state, ((after .boundaryEvent t).follower 7).state) = (.trusted, .stale) := by decide +kernel

/-! ## The Management Link and the lines -/

theorem test_events_and_attention :
    let s := after (.setEventMask 0xFFBF) (scene.raiseRack 3 .halted)
    let t := after .readEvents s
    ((scene.raiseRack 3 .halted).attention, s.attention, t.attention, t.link.response) =
      (false, true, false, [0x01, 0x00, 0x40, 0x00, 0x00, 0x00, 0x00, 0x00, 0x08, 0x01, 0xBF]) := by decide +kernel

theorem test_set_line :
    let s := after (.setLine 2 0 1 0 1) scene
    (s.lineHigh 2, (after (.setLine 2 0 0 0 1) scene).lineHigh 2, (after (.setLine 4 0 0 0 0) scene).link.response) = (false, true, [0x06]) := by
  decide +kernel

theorem test_identify_in_start_up : (after .identify State.reset).link.response = [0x01, 0x5A, 0x12, 0x56, 0x01] := by decide +kernel

theorem test_unknown_and_abort :
    ((after (.unknownRequest 0x99) State.reset).link.response, (after (.managementFrameAbort [0x18]) ready).link.response) = ([0x0A], []) := by
  decide +kernel

/-- The link with MCS low, these bytes of a frame arrived, and one event of the wires to come. -/
def onWires (frame : LinkFrame) (e : LinkEvent) : State :=
  { ready with link := { ready.link with frame := frame, response := [0x01, 0x5A] }, wires := [e] }

/-- R159: the code byte of IDENTIFY takes it; MDO carries zero bytes before, the response next, zero bytes after it. -/
theorem test_identify_on_the_wires :
    (match step (onWires (.receiving []) (.byte 0x7F)) with
      | .next t => (t.link.frame, t.mdo, t.link.response, t.wires) | _ => (.closed, none, [], [])) =
      (.taken 0, some 0x01, [0x01, 0x5A, 0x12, 0x56, 0x01], []) ∧
    (onWires (.receiving []) .deselect).mdo = some 0x00 ∧ (onWires (.taken 1) .deselect).mdo = some 0x5A ∧
    (onWires (.taken 2) .deselect).mdo = some 0x00 := by decide +kernel

/-- R159: a reset with MCS low waits for its rise; a fall, which MCS cannot make, and a byte change nothing until then. -/
theorem test_reset_in_a_frame :
    (after .powerOnReset (onWires (.receiving [0x18]) .select)).link.frame = .awaitRise ∧
    (after .powerOnReset (onWires .closed .select)).link.frame = .closed ∧
    (onWires .awaitRise .select).selectLink.link.frame = .awaitRise ∧
    (match step (onWires .awaitRise (.byte 0x7F)) with | .next t => t.link.frame | _ => .closed) = .awaitRise ∧
    (match step (onWires (.taken 1) .deselect) with | .next t => (t.link.frame, t.link.response) | _ => (.awaitRise, [])) = (.closed, []) := by
  decide +kernel

theorem test_read_row : (after .readRow scene).link.response.take 11 = [0x01, 0x00, 0x00, 0x04, 0x8C, 0x27, 0x39, 0x50, 0x00, 0x02, 0x01] ∧
    (after .readRow scene).link.response.length = 59 := by decide +kernel

theorem test_idle_part_ticks : (match step State.reset with | .next t => (t.elapsed, t.row.frac, t.row.warmUp + 1 == State.reset.row.warmUp) | _ => (0, 0, false)) =
    (1, 1, true) := by decide +kernel

/-! ## A state and operands for the hypotheses of each obligation -/

/-- The start-up interval and the warm-up have both run out. -/
def bothDue : State := { State.reset with row := { Row.powerOn with warmUp := 0 }, link := { Link.powerOn with startUp := 0 } }

theorem witness_IdleStepTakesDueEventOrTicks :
    ((onWires .closed .select).pending = [] ∧ (onWires .closed .select).wires = [.select]) ∧
    (State.reset.pending = [] ∧ State.reset.wires = [] ∧ State.reset.dueEvents = []) ∧
    ({ State.reset with link := { Link.powerOn with startUp := 0 } } : State).dueEvents = [.startUpIntervalEnd] ∧
    bothDue.pending = [] ∧ bothDue.wires = [] ∧ 2 ≤ bothDue.dueEvents.length := by decide +kernel

theorem witness_WarmUpEndEntersAcquiring :
    (bothDue.row.state = .warming ∧ bothDue.row.warmUp = 0 ∧ bothDue.selector.inUse = none ∧ bothDue.candidate = none) ∧
    (let s := { bothDue with selector := { Selector.powerOn with hallB := { RefRecord.powerOn 0 with state := .usable, qualifyCount := 5 } } };
      s.row.state = .warming ∧ s.row.warmUp = 0 ∧ s.selector.inUse = none ∧ s.candidate = some .hallB) := by decide +kernel

theorem witness_TimedRowEventsTakeEffect :
    (bothDue.link.ready = false ∧ bothDue.link.startUp = 0) ∧
    (coasting.state = .holdover ∧ coasting.urLimit = min (coasting.entryUr + ceilDiv (coasting.wander * (coasting.whole - coasting.entryTime)) 16000000000) 4294967295) ∧
    (let r := { coasting with whole := coasting.whole + 1 };
      r.urLimit < min (r.entryUr + ceilDiv (r.wander * (r.whole - r.entryTime)) 16000000000) 4294967295) ∧
    ((above 5000000000000 locked).row.pulseCondition = true ∧ (above 5000000000000 locked).pulseWindow = false) ∧
    (above 5000001000000 locked).row.pulseCondition = false := by decide +kernel

theorem witness_AdvanceIsExactAndAddsUp :
    -16000000000 ≤ lockedRow.s ∧ (lockedRow.advance 4294967296).fine < topOfTime := by decide +kernel

theorem witness_RowTimeAndSteerMoveByRule :
    locked.row.fine ≤ topOfTime ∧ exec .readRow locked = .next (after .readRow locked) ∧ Instr.readRow ≠ .powerOnReset ∧
      (∀ l received, Instr.readRow ≠ .linkMarkReceptionEnd l received) ∧ Instr.readRow ≠ .pulseEdge :=
  ⟨by decide +kernel, rfl, by decide, fun _ _ => by simp, by decide⟩

/-- What a step leaves. -/
def next (s : State) : State := match step s with | .next t => t | .fault _ | .refused _ => s

theorem witness_RowStateMovesAreReported :
    let s := { bothDue with pending := [.warmUpEnd] }
    step s = .next (next s) ∧ s.pending.head? ≠ some .powerOnReset ∧ s.row.state = .warming ∧ (next s).row.state ≠ s.row.state :=
  ⟨rfl, by decide, rfl, by decide +kernel⟩

theorem witness_HoldoverUncertaintyNeverFalls :
    let s : State := { locked with row := coasting, pending := [.holdoverToFree] }
    let t : State := { s with row := { coasting with whole := coasting.whole + 1 } }
    (s.row.fine ≤ topOfTime ∧ step s = .next (next s) ∧ s.row.state = .holdover ∧ (next s).row.state = .holdover) ∧
    (step t = .next (next t) ∧ (next t).row.state = .free) :=
  ⟨⟨by decide +kernel, rfl, rfl, by decide +kernel⟩, rfl, by decide +kernel⟩

theorem witness_RestartRowDelivers :
    (ready.link.ready = true ∧ ready.row.state = .warming) ∧
    (awaiting.link.ready = true ∧ awaiting.row.state ≠ .warming ∧ awaiting.row.state ≠ .acquiring ∧ (awaiting.follower 7).state.active = true ∧
      (awaiting.follower 0).state = .vacant ∧ (awaiting.port 0).exchange = none ∧ (awaiting.port 3).exchange.isSome = true ∧
      (awaiting.follower 7).state ≠ .retiring) ∧
    (let s := awaiting.setFollower 7 { record7 with state := .retiring, pendingOrder := some ⟨.step, 1⟩ };
      s.link.ready = true ∧ s.row.state ≠ .warming ∧ (s.follower 7).state = .retiring ∧
        ((s.port 3).exchange.any fun x => x.follower == 7) = true ∧ fence41.follower = 7 ∧ fence41 ∈ s.fences.list) := by decide +kernel

/-! ### Marks -/

/-- A locked row whose input Hall A is receiving a mark frame that arrived at `arrival`. -/
def receiving (arrival compensation : Nat) : State :=
  { locked with selector := { inUseHallA with hallA := { inUseHallA.hallA with arriving := some arrival, compensation := compensation } } }

/-- The end of that mark's reception: label 5,000,000,000,000, declared u 150. -/
def markEnd : Instr := .linkMarkReceptionEnd .hallA (markAt 5000000000000 150)

theorem delivers_of_link {s : State} {l : LinkInput} {received : List Byte} {f : MarkFields} {a : Nat}
    (h : (s.ref (linkReference l)).arriving = some a) (hp : parseMark received = some f)
    (hc : (s.ref (linkReference l)).linkConsistent ⟨f.label, f.declaredU, a⟩ = true) :
    s.Delivers (.linkMarkReceptionEnd l received) (linkReference l) ⟨f.label, f.declaredU, a⟩ :=
  .inl ⟨l, received, f, rfl, rfl, h, hp, rfl, rfl, hc⟩

theorem mark_is_delivered {arrival compensation : Nat}
    (h : ((receiving arrival compensation).ref (linkReference .hallA)).linkConsistent ⟨5000000000000, 150, arrival⟩ = true) :
    (receiving arrival compensation).Delivers markEnd .hallA ⟨5000000000000, 150, arrival⟩ :=
  delivers_of_link (f := ⟨5000000000000, 150⟩) rfl (by decide +kernel) h

/-- An edge of the pulse input at row time 5,000,000,000,000. -/
theorem edge_is_delivered : locked.Delivers .pulseEdge .pulse ⟨5000000000000, 100, 5000000000000⟩ :=
  .inr ⟨rfl, rfl, rfl, rfl, rfl, by decide +kernel, by decide +kernel, by decide +kernel⟩

/-- Hall A at its fifth mark with no reference in use, the row Acquiring. -/
def fifth : State :=
  let s := receiving 5000000000000 0
  { s with
    row := { s.row with state := .acquiring }
    selector := { s.selector with inUse := none, hallA := { s.selector.hallA with state := .qualifying, qualifyCount := 4 } } }

theorem witness_MarksOutOfUseAreRecorded :
    (locked.ref (linkReference .hallA)).arriving = none ∧ ready.row.rowSet = false ∧
    (locked.Delivers .pulseEdge .pulse ⟨5000000000000, 100, 5000000000000⟩ ∧ locked.selector.inUse = some .hallA ∧ Reference.hallA ≠ .pulse) ∧
    (let s : State := { receiving 5000000000000 0 with selector := { (receiving 5000000000000 0).selector with inUse := some .hallB } };
      s.Delivers markEnd .hallA ⟨5000000000000, 150, 5000000000000⟩ ∧ s.selector.inUse = some .hallB ∧ Reference.hallB ≠ .hallA) ∧
    (let s : State := { fifth with row := { fifth.row with state := .warming } };
      s.Delivers markEnd .hallA ⟨5000000000000, 150, 5000000000000⟩ ∧ s.selector.inUse = none ∧ s.row.state = .warming) ∧
    (let s := fifth.setRef .hallA { fifth.ref .hallA with qualifyCount := 3 };
      s.Delivers markEnd .hallA ⟨5000000000000, 150, 5000000000000⟩ ∧ s.selector.inUse = none ∧
        ∀ q ∈ [Reference.hallB, .neighbour, .pulse], (s.ref q).state ≠ .usable) ∧
    (fifth.Delivers markEnd .hallA ⟨5000000000000, 150, 5000000000000⟩ ∧ fifth.selector.inUse = none ∧ fifth.row.state ≠ .warming ∧
      (fifth.ref .hallA).state = .qualifying ∧ (fifth.ref .hallA).qualifyCount = 4 ∧ fifth.selector.selected = .hallA) :=
  ⟨rfl, rfl, ⟨edge_is_delivered, rfl, by decide⟩,
    ⟨delivers_of_link (f := ⟨5000000000000, 150⟩) rfl (by decide +kernel) (by decide +kernel), rfl, by decide⟩,
    ⟨delivers_of_link (f := ⟨5000000000000, 150⟩) rfl (by decide +kernel) (by decide +kernel), rfl, rfl⟩,
    ⟨delivers_of_link (f := ⟨5000000000000, 150⟩) rfl (by decide +kernel) (by decide +kernel), rfl, by decide +kernel⟩,
    ⟨delivers_of_link (f := ⟨5000000000000, 150⟩) rfl (by decide +kernel) (by decide +kernel), rfl, by decide, rfl, rfl, rfl⟩⟩

/-- The link clauses with no reference in use, with Hall A in use and a Usable backup, and with none to replace it; the Pulse clause. -/
theorem witness_InconsistentMarksSetBackOrFault :
    (let s : State := { receiving 5000000000000 0 with selector := { (receiving 5000000000000 0).selector with inUse := none } };
      s.selector.inUse ≠ some .hallA ∧ (s.ref .hallA).arriving = some 5000000000000 ∧
      parseMark (markAt 5000000000000 150 ++ [0]) = none ∧
      (parseMark (markAt 5001000000000 150) = some ⟨5001000000000, 150⟩ ∧ (s.ref .hallA).state = .usable ∧
        5001000000000 ≠ 1000000000 + (s.ref .hallA).lastLabel)) ∧
    (let s := (receiving 5000000000000 0).setRef .hallB { RefRecord.powerOn 0 with state := .usable, qualifyCount := 5 };
      (s.ref .hallA).arriving = some 5000000000000 ∧ parseMark (markAt 5000000000000 150 ++ [0]) = none ∧
      s.selector.inUse = some .hallA ∧ (s.ref .hallA).state = .usable ∧ s.selector.selected = .hallA ∧
      s.selector.backup = some .hallB ∧ (s.ref .hallB).state = .usable) ∧
    (let s := receiving 5000000000000 0;
      (s.ref .hallA).arriving = some 5000000000000 ∧ s.selector.inUse = some .hallA ∧ (s.ref .hallA).state = .usable ∧ s.row.state = .locked ∧
      ∀ q ∈ [Reference.hallB, .neighbour, .pulse], (s.ref q).state ≠ .usable) ∧
    (let p := locked.setRef .pulse { RefRecord.powerOn 100 with state := .usable, qualifyCount := 5, lastArrival := 4999000100001 };
      p.row.rowSet = true ∧ (p.ref .pulse).state = .usable ∧ p.row.whole < 999900000 + (p.ref .pulse).lastArrival) := by decide +kernel

theorem witness_SilentReferenceIsReplacedOrLost :
    let s : State := { above 5001500000000 locked with selector := { inUseHallA with
      hallB := { RefRecord.powerOn 0 with state := .usable, qualifyCount := 5, lastArrival := 4999000000000 }
      neighbour := { RefRecord.powerOn 0 with state := .qualifying, qualifyCount := 1, lastArrival := 4999000000000 } } }
    (∀ r ∈ [Reference.hallA, .hallB, .neighbour], 4294967296 * (2500000000 + (s.ref r).lastArrival) < s.row.fine) ∧
    (s.ref .neighbour).state = .qualifying ∧ ((s.ref .hallB).state = .usable ∧ s.selector.inUse ≠ some .hallB) ∧
    ((s.ref .hallA).state = .usable ∧ s.selector.inUse = some .hallA ∧ s.selector.backup = some .hallB ∧ s.selector.selected = .hallA) ∧
    (let u : State := above 5001500000000 locked;
      4294967296 * (2500000000 + (u.ref .hallA).lastArrival) < u.row.fine ∧ (u.ref .hallA).state = .usable ∧ u.row.state = .locked ∧
        ∀ q ∈ [Reference.hallB, .neighbour, .pulse], (u.ref q).state ≠ .usable) := by decide +kernel

/-- Errors of 50,000 and −50,001 ns: the last that slews, and one that the clamp of R20 meets. -/
theorem witness_UsedMarkSlewsTheRow :
    (let s := receiving 5000000000000 50000;
      s.Delivers markEnd .hallA ⟨5000000000000, 150, 5000000000000⟩ ∧ s.selector.inUse = some .hallA ∧ s.row.state ≠ .warming ∧
      ((5000000000000 : Int) + (s.ref .hallA).compensation - 5000000000000).natAbs ≤ s.row.sanityLimit ∧
      (5000000000000 : Int) + (s.ref .hallA).compensation - 5000000000000 ≤ s.row.stepLimit) ∧
    (let s := receiving 5000000050001 0;
      s.Delivers markEnd .hallA ⟨5000000000000, 150, 5000000050001⟩ ∧ s.selector.inUse = some .hallA ∧ s.row.state ≠ .warming ∧
      ((5000000000000 : Int) + (s.ref .hallA).compensation - 5000000050001).natAbs ≤ s.row.sanityLimit ∧
      (5000000000000 : Int) + (s.ref .hallA).compensation - 5000000050001 < -(s.row.stepLimit : Int)) :=
  ⟨⟨mark_is_delivered (by decide +kernel), rfl, by decide, by decide +kernel, by decide +kernel⟩,
    ⟨mark_is_delivered (by decide +kernel), rfl, by decide, by decide +kernel, by decide +kernel⟩⟩

/-- An error of 50,001 ns: the first that steps. At 5,000,000,000,001 ns it passes no boundary; one nanosecond earlier it passes one. -/
theorem witness_UsedMarkStepsTheRow :
    (∀ ns ∈ [5000000000001, 5000000000000], let s := at' ns (receiving 5000000000000 50001);
      s.Delivers markEnd .hallA ⟨5000000000000, 150, 5000000000000⟩ ∧ s.selector.inUse = some .hallA ∧ s.row.state ≠ .warming ∧
      ((5000000000000 : Int) + (s.ref .hallA).compensation - 5000000000000).natAbs ≤ s.row.sanityLimit ∧
      (s.row.stepLimit : Int) < (5000000000000 : Int) + (s.ref .hallA).compensation - 5000000000000) ∧
    (let boundaries (ns : Nat) := (ns * 4294967296 - 1) / (4294967296 * 100000000);
      boundaries (5000000000001 + 50001) = boundaries 5000000000001 ∧
        boundaries (5000000000000 + 50001) = boundaries 5000000000000 + 1) := by
  refine ⟨fun ns h => ?_, by decide +kernel⟩
  fin_cases h <;> exact ⟨delivers_of_link (f := ⟨5000000000000, 150⟩) rfl (by decide +kernel) (by decide +kernel), rfl, by decide,
    by decide +kernel, by decide +kernel⟩

/-- An error of 200,001 ns in a Locked row: the first that is rejected. -/
theorem witness_SanityRejectionsFaultTheReference :
    let s := receiving 5000000000000 200001
    s.Delivers markEnd .hallA ⟨5000000000000, 150, 5000000000000⟩ ∧ s.selector.inUse = some .hallA ∧ s.row.state = .locked ∧
      s.selector.firstMark = false ∧
      s.row.sanityLimit < ((5000000000000 : Int) + (s.ref .hallA).compensation - 5000000000000).natAbs :=
  ⟨mark_is_delivered (by decide +kernel), rfl, rfl, rfl, by decide +kernel⟩

theorem witness_ReferenceRequestsAct :
    locked.link.ready = true ∧ referenceOf 3 = some .pulse ∧ referenceOf 4 = none ∧
    (jumping.row.state ≠ .warming ∧ referenceOf 1 = some .hallB ∧ (jumping.ref .hallB).state = .usable ∧ jumping.selector.inUse ≠ some .hallB) ∧
    (referenceOf 0 = some .hallA ∧ (jumping.ref .hallA).state = .usable ∧ jumping.selector.inUse = some .hallA) ∧
    (let s := { silent with link := locked.link, selector := { silent.selector with
        neighbour := { RefRecord.powerOn 0 with state := .usable, qualifyCount := 5 } } };
      s.link.ready = true ∧ referenceOf 2 = some .neighbour ∧ s.row.state ≠ .warming ∧ s.selector.inUse = none ∧
        (s.ref s.selector.selected).state ≠ .usable ∧ (s.ref .neighbour).state = .usable ∧ some Reference.neighbour ≠ some s.selector.selected) := by
  decide +kernel

/-! ### Drift Watch -/

theorem witness_BoundaryAgesAndMeasures :
    warm.boundaryDue = true ∧ (warm.port 0).state = .disabled ∧ (warm.port 3).state ≠ .disabled ∧
      (warm.rack 3).drift.persistence.standing = false ∧ (warm.rack 3).drift.calm.standing = false := by decide +kernel

theorem witness_CountersRunTheirFullCount :
    let c : Counter := ⟨1, 0, 1, 0, false⟩
    (1 ≤ c.mainReload ∧ c.standing = false ∧ 0 < c.mainReload * (c.prescaleReload + 1)) ∧ (c.prescale = 0 ∧ c.main = 1) ∧
    (0 < (⟨1, 1, 1, 1, false⟩ : Counter).prescale) ∧ (2 ≤ (⟨2, 0, 2, 0, false⟩ : Counter).main) := by decide

theorem witness_WarningsRiseFallAndAreAcknowledged :
    let d : Drift := { Drift.powerOn with state := .leaning, persistence := ⟨30, 9, 30, 9, true⟩, calm := ⟨60, 9, 60, 9, true⟩ }
    let e : Drift := { d with state := .excess, warning := .watch }
    ((scene.setDrift 3 d).rack 3).drift = d ∧ d.persistence.standing = true ∧ d.calm.standing = true ∧ (d.state = .leaning ∧ d.warning = .none) ∧
    ((scene.setDrift 3 e).rack 3).drift = e ∧ (e.state = .excess ∧ e.warning ≠ .drift) ∧ e.warning ≠ .none ∧ e.calm.standing = true ∧
    (scene.setDrift 3 e).link.ready = true ∧ (11 < (0x0C : Byte).toNat) ∧ (0x03 : Byte).toNat = (3 : RackId).val := by decide +kernel

/-! ### The Follower Table -/

theorem witness_EnrolWritesLowestVacantRecord :
    scene.link.ready = true ∧ (11 < (0x0C : Byte).toNat) ∧
    ((scene.follower 7).state ≠ .vacant ∧ (scene.follower 7).port.val = (0x03 : Byte).toNat ∧ (scene.follower 7).slot.val = (0x0C : Byte).toNat) ∧
    ((∀ j, ¬ ((scene.follower j).state ≠ .vacant ∧ (scene.follower j).port.val = (0x0B : Byte).toNat ∧ (scene.follower j).slot.val = (0x27 : Byte).toNat)) ∧
      (scene.follower 0).state = .vacant ∧ (∀ j : FollowerId, j < 0 → (scene.follower j).state ≠ .vacant)) ∧
    (let full : State := { ready with followers := Vector.replicate 256 record7 };
      (∀ j, (full.follower j).state ≠ .vacant) ∧
        ∀ j, ¬ ((full.follower j).state ≠ .vacant ∧ (full.follower j).port.val = (0x0B : Byte).toNat ∧ (full.follower j).slot.val = (0x27 : Byte).toNat)) := by
  decide +kernel

theorem witness_AmendMuteUnmuteWriteTheRecord :
    ((7 : FollowerId).val = (0x07 : Byte).toNat ∧ scene.link.ready = true) ∧
    ((0x01 : Byte).getLsbD 0 = true ∧ 1 < (0x02 : Byte).toNat) ∧ (scene.follower 0).state = .vacant ∧
    ((scene.follower 7).state ≠ .vacant ∧ (scene.follower 7).state ≠ .retiring ∧ (scene.follower 7).state ≠ .muted) ∧
    ((scene.setFollower 7 { record7 with state := .muted }).follower 7).state = .muted := by decide +kernel

theorem witness_RetireVacatesOrWaits :
    ((7 : FollowerId).val = (0x07 : Byte).toNat ∧ scene.link.ready = true ∧ awaiting.link.ready = true) ∧ (scene.follower 0).state = .vacant ∧
    ((scene.follower 7).state ≠ .vacant ∧ (scene.follower 7).state ≠ .retiring ∧ (scene.port (scene.follower 7).port).exchange = none) ∧
    ((awaiting.follower 7).state ≠ .vacant ∧ (awaiting.follower 7).state ≠ .retiring ∧
      ((awaiting.port (awaiting.follower 7).port).exchange.map (·.follower)) = some 7) ∧
    ((awaiting.setFollower 7 { record7 with state := .retiring }).follower 7).state = .retiring := by decide +kernel

theorem witness_FindFollowerAnswersTheOneHolder :
    scene.link.ready = true ∧ (11 < (0x0C : Byte).toNat) ∧ (39 < (0x28 : Byte).toNat) ∧
    ((scene.follower 7).state ≠ .vacant ∧ (scene.follower 7).port.val = (0x03 : Byte).toNat ∧ (scene.follower 7).slot.val = (0x0C : Byte).toNat) ∧
    (∀ i, (scene.follower i).state ≠ .vacant → i = 7) ∧
    (∀ i, ¬ ((scene.follower i).state ≠ .vacant ∧ (scene.follower i).port.val = (0x0B : Byte).toNat ∧ (scene.follower i).slot.val = (0x27 : Byte).toNat)) := by
  decide +kernel

theorem witness_OrdersArePlacedAndNoticesFound :
    let n := scene.setFollower 7 { record7 with noticed := true, pendingOrder := some ⟨.hold, 0⟩ }
    scene.link.ready = true ∧ OrderKind.ofCode 0x01 = some .step ∧ OrderKind.ofCode 0x05 = none ∧ (scene.follower 0).state.active = false ∧
    ((scene.follower 7).state.active = true ∧ (scene.follower 7).pendingOrder = none ∧ (scene.follower 7).published.valid = true ∧
      (scene.follower 7).holding = false) ∧
    ((n.follower 7).state.active = true ∧ (n.follower 7).pendingOrder.isSome = true ∧ (n.follower 7).noticed = true ∧
      ∀ j : FollowerId, j < 7 → (n.follower j).noticed = false) ∧
    (∀ i, (scene.follower i).noticed = false) := by decide +kernel

/-! ### Fences -/

theorem witness_FencesClearExpireAndDrop :
    (let s := above 5000000050270 waiting;
      s.fences.list[1]? = some ⟨12, 3, 5000000050000, .waiting, 4999990000000, 1⟩ ∧ s.row.state ≠ .free ∧
        4294967296 * (5000000050000 + s.row.currentUr) < s.row.fine) ∧
    (let s := above 5029990000000 waiting;
      s.fences.list[1]? = some ⟨12, 3, 5000000050000, .waiting, 4999990000000, 1⟩ ∧
        4294967296 * (4999990000000 + 1000000000 * s.fences.waitMax) < s.row.fine) ∧
    (let s := above 5029999900270 waiting;
      s.fences.list[0]? = some fence41 ∧ fence41.state ≠ .waiting ∧ 4294967296 * (fence41.lastChange + 1000000000 * s.fences.waitMax) < s.row.fine) := by
  decide +kernel

theorem witness_FencesClearOnlyWhenPassed :
    let s := { above 5000000050270 waiting with pending := [.fenceClearing] }
    step s = .next (next s) ∧ (next s).fences.list[1]? = some ⟨12, 3, 5000000050000, .cleared, 5000000050270, 1⟩ :=
  ⟨rfl, by decide +kernel⟩

/-! ### Trust, estimates and dates -/

/-- The part of 5.9 with record 7 Settling, one good exchange short of Trusted, and its Reply at the front of the queue. -/
def settling : State :=
  { replied.setFollower 7 { replied.follower 7 with state := .settling, settleCount := 1 } with pending := [.replyReceptionEnd 3 replyOf59] }

theorem witness_OnlySettledRepliesMakeTrusted :
    step settling = .next (next settling) ∧ ((next settling).follower 7).state = .trusted ∧ (settling.follower 7).state ≠ .trusted :=
  ⟨rfl, by decide +kernel, by decide +kernel⟩

theorem witness_EstimatesChangeOnlyByPublication :
    step settling = .next (next settling) ∧ (settling.follower 7).state ≠ .vacant ∧ ((next settling).follower 7).state ≠ .vacant ∧
      ((next settling).follower 7).selector ≠ (settling.follower 7).selector :=
  ⟨rfl, by decide +kernel, by decide +kernel, by decide +kernel⟩

/-- Ages 0 and the max date age itself; U_date equal to the date ceiling, and one above it; an interval that lies wholly below 0, and one that the ends of row time clamp on either side. -/
theorem witness_DateAsksAreAnsweredByTheChecks :
    published7.kind = .storage ∧ published7.state = .trusted ∧
    [dateAnswer .locked published7 Rack.powerOn 5000000000000 5000000000000,
     dateAnswer .locked published7 Rack.powerOn 5000000000000 4999900000000,
     dateAnswer .holdover published7 { Rack.powerOn with dateCeiling := 3370 } 5000000000000 5000000000000,
     dateAnswer .locked published7 { Rack.powerOn with dateCeiling := 3369 } 5000000000000 5000000000000,
     dateAnswer .locked { published7 with slotB := { published7.slotB with theta := 1000000 } } Rack.powerOn 0 0,
     dateAnswer .locked published7 Rack.powerOn 1000 1000, dateAnswer .locked published7 Rack.powerOn (2 ^ 64 - 1) (2 ^ 64 - 1),
     dateAnswer .locked { published7 with kind := .server } Rack.powerOn 0 0, dateAnswer .acquiring published7 Rack.powerOn 0 0] =
    [.dated 4999999995430 5000000002170 false false, .dated 4999899995426 4999900002176 false false,
     .dated 4999999995430 5000000002170 true false, .tooUncertain, .outOfRange, .dated 0 3170 false false, .dated 18446744073709547045 18446744073709551615 false false, .notStorage, .notReady] := by decide +kernel

/-! ### Rack ports and exchanges -/

/-- Port 3 announcing. -/
def announcing : State := scene.setPort 3 { port3 with activity := .announcing, transmitting := some ⟨announceFrame 0 .locked 0, 0⟩ }

/-- Port 3 in a quiet window that has run out. -/
def quiet : State := scene.setPort 3 { port3 with activity := .quiet, quietEnd := some 0 }

theorem witness_AnnouncesAndIdleFrames :
    (let q := (scene.setPort 3 { port3 with pendingAnnounce := true }).port 3;
      q.state = .running ∧ q.activity = .idle ∧ q.pendingAnnounce = true) ∧
    ((announcing.port 3).activity = .announcing ∧ (announcing.port 3).exchange = none) ∧
    ((quiet.port 3).activity = .quiet ∧ (quiet.port 3).quietEnd = some 0 ∧ 0 ≤ quiet.elapsed) := by decide +kernel

theorem witness_SweepProbesEarliestDueFollower :
    let q := scene.port 3
    let f := scene.follower 7
    q.state = .running ∧ q.activity = .idle ∧ q.pendingAnnounce = false ∧ (f.state.active = true ∧ f.port = 3 ∧ f.nextDue ≤ scene.row.whole) ∧
    (∀ j, j ≠ 7 → (scene.follower j).state.active = false) ∧
    f.nextDue + 125000000 * 2 ^ f.periodClass ≤ instantMax := by decide +kernel

theorem witness_ProbeEndsAndReplyIsStamped :
    ((probing.port 3).exchange = some (exchange .probe none none) ∧ (exchange .probe none none).phase = .probe) ∧
    ((awaiting.port 3).exchange = some (exchange .awaiting (some (elapsedNs 1000000)) none) ∧
      (exchange .awaiting (some (elapsedNs 1000000)) none).phase = .awaiting ∧ (exchange .awaiting (some (elapsedNs 1000000)) none).reply = none) := by
  decide +kernel

theorem witness_CountedFaultsEndTheExchange :
    (let s := { awaiting with elapsed := elapsedNs 1000000 };
      (s.port 3).exchange = some (exchange .awaiting (some (elapsedNs 1000000)) none) ∧ elapsedNs 1000000 ≤ s.elapsed ∧
        (s.follower 7).state ≠ .retiring) ∧
    ((probing.port 3).exchange = some (exchange .probe none none) ∧ (probing.port 3).activity = .exchange) ∧
    ((replied.port 3).exchange = some (exchange .awaiting none (some ⟨5000000046100, .locked, 270⟩)) ∧
      (match parseReply (BitVec.ofNat 8 (replied.follower 7).slot.val) 118 (replyOf59.set 30 0) with | .error k => k == .check | .ok _ => false) = true) ∧
    (3050 : Int) ≤ ((replied.port 3).delayCeiling : Int) ∧
    (let s := replied.setPort 3 { replied.port 3 with delayCeiling := 3049 };
      ((s.port 3).delayCeiling : Int) < (((5000000046100 : Int) - 5000000000000) - ((5000000044250 : Int) - 5000000004250)) / 2) ∧
    (let s := probing.setFollower 7 { record7 with state := .retiring };
      (s.port 3).exchange = some (exchange .probe none none) ∧ (s.port 3).activity = .exchange ∧ (s.follower 7).state = .retiring) := by
  decide +kernel

/-- The Reply of 5.9, read. -/
def reply59 : Reply :=
  { t2 := 5000000004250, t3 := 5000000044250, holding := false, restarted := false, ack := none,
    asks := [.date 7 4999980044250, .fence 42 5000000050000] }

theorem ok_of_match {x : Except FaultKind Reply} {r : Reply} (h : (match x with | .ok q => decide (q = r) | .error _ => false) = true) :
    x = .ok r := by
  cases x with
  | error k => cases h
  | ok q => exact congrArg _ (of_decide_eq_true h)

theorem reply59_reads (s : State) (h : (s.follower 7).slot = 12) :
    parseReply (BitVec.ofNat 8 (s.follower 7).slot.val) 118 replyOf59 = .ok reply59 := by
  rw [h]; exact ok_of_match (by decide +kernel)

/-- The hypotheses that the four statements on a good Reply share; each row is for a record in one of its states. -/
theorem witness_GoodReplyPublishesEstimate :
    (replied.port 3).exchange = some (exchange .awaiting none (some ⟨5000000046100, .locked, 270⟩)) ∧
    parseReply (BitVec.ofNat 8 (replied.follower 7).slot.val) 118 replyOf59 = .ok reply59 ∧ (replied.follower 7).state.active = true ∧
    0 ≤ (reply59.t3 : Int) - reply59.t2 ∧ (reply59.t3 : Int) - reply59.t2 ≤ (5000000046100 : Int) - 5000000000000 ∧
    (((5000000046100 : Int) - 5000000000000) - ((reply59.t3 : Int) - reply59.t2)) / 2 ≤ (replied.port 3).delayCeiling :=
  ⟨by decide +kernel, reply59_reads _ (by decide +kernel), by decide +kernel, by decide, by decide, by decide +kernel⟩

theorem witness_GoodReplySettlesRecord :
    (settling.port 3).exchange = some (exchange .awaiting none (some ⟨5000000046100, .locked, 270⟩)) ∧
    parseReply (BitVec.ofNat 8 (settling.follower 7).slot.val) 118 replyOf59 = .ok reply59 ∧
    (∀ k, reply59.ack = some (k, .done) → (exchange .awaiting none none).order = some k → k = .hold ∨ k = .resume) ∧
    (((5000000046100 : Int) - 5000000000000) - ((reply59.t3 : Int) - reply59.t2)) / 2 ≤ (settling.port 3).delayCeiling ∧
    (settling.follower 7).state = .settling ∧ settling.row.state = .locked ∧ (settling.follower 7).settleCount ≤ 1 :=
  ⟨by decide +kernel, reply59_reads _ (by decide +kernel), fun _ h => absurd h (by simp [reply59]), by decide +kernel, by decide +kernel, rfl, by decide +kernel⟩

theorem witness_GoodReplyTakesAcknowledgement :
    (let x := { exchange .awaiting none (some ⟨5000000046100, .locked, 270⟩) with order := some .step };
      let s := (replied.setFollower 7 { record7 with pendingOrder := some ⟨.step, 0⟩ }).setPort 3 { replied.port 3 with exchange := some x };
      let r := { reply59 with ack := some (.step, .done) };
      (s.port 3).exchange = some x ∧ (s.follower 7).pendingOrder = some ⟨.step, 0⟩ ∧ (s.follower 7).state.active = true ∧
      parseReply (BitVec.ofNat 8 (s.follower 7).slot.val) 118 (replyBytes 12 118 r) = .ok r ∧
      r.ack = some (.step, .done) ∧ x.order = some .step ∧
      (((5000000046100 : Int) - 5000000000000) - ((r.t3 : Int) - r.t2)) / 2 ≤ (s.port 3).delayCeiling) ∧
    (let r := { reply59 with holding := true };
      (replied.port 3).exchange = some (exchange .awaiting none (some ⟨5000000046100, .locked, 270⟩)) ∧
      (replied.follower 7).pendingOrder = none ∧ (replied.follower 7).state.active = true ∧ r.ack = none ∧
      parseReply (BitVec.ofNat 8 (replied.follower 7).slot.val) 118 (replyBytes 12 118 r) = .ok r ∧
      (((5000000046100 : Int) - 5000000000000) - ((r.t3 : Int) - r.t2)) / 2 ≤ (replied.port 3).delayCeiling) :=
  ⟨⟨by decide +kernel, by decide +kernel, by decide +kernel, ok_of_match (by decide +kernel), rfl, rfl, by decide +kernel⟩,
    by decide +kernel, by decide +kernel, by decide +kernel, rfl, ok_of_match (by decide +kernel), by decide +kernel⟩

/-- The first clause at its boundaries: a bound of t4 − Ur and one less, the horizon's end and one more, 63 and 64 fences; then an active record with a Date ask and a Fence ask, a Muted one and a Retiring one. -/
theorem witness_GoodReplyBeginsVerdict :
    (let c : Capture := ⟨5000000046100, .locked, 270⟩;
      let full (n : Nat) : State := { replied with fences := { replied.fences with list := List.replicate n fence41 } };
      let ask (u : State) (bound : Nat) := u.fenceAnswer record7 c bound;
      record7.kind = .storage ∧ replied.row.state = .locked ∧ replied.fences.horizon = 10 ∧
      [ask replied 5000000045829, ask replied 5000000045830, ask replied 5010000046100, ask replied 5010000046101,
        ask (full 63) 5000000050000, ask (full 64) 5000000050000,
        ask { replied with row := { replied.row with state := .acquiring } } 0, ask { replied with row := { replied.row with state := .free } } 0,
        replied.fenceAnswer { record7 with kind := .server } c 0] =
        [.clear, .held, .held, .far, .held, .full, .notReady, .free, .notStorage]) ∧
    ((replied.port 3).exchange = some (exchange .awaiting none (some ⟨5000000046100, .locked, 270⟩)) ∧
      parseReply (BitVec.ofNat 8 (replied.follower 7).slot.val) 118 replyOf59 = .ok reply59 ∧ (replied.follower 7).state.active = true ∧
      0 ≤ (reply59.t3 : Int) - reply59.t2 ∧ (reply59.t3 : Int) - reply59.t2 ≤ (5000000046100 : Int) - 5000000000000 ∧
      (((5000000046100 : Int) - 5000000000000) - ((reply59.t3 : Int) - reply59.t2)) / 2 ≤ (replied.port 3).delayCeiling ∧
      reply59.asks[0]? = some (.date 7 4999980044250) ∧ reply59.asks[1]? = some (.fence 42 5000000050000)) ∧
    (∀ state ∈ [FollowerState.muted, .retiring], let s := replied.setFollower 7 { record7 with state := state };
      (s.port 3).exchange = some (exchange .awaiting none (some ⟨5000000046100, .locked, 270⟩)) ∧ (s.follower 7).state = state ∧
      (s.follower 7).slot = 12) :=
  ⟨by decide +kernel,
    ⟨by decide +kernel, reply59_reads _ (by decide +kernel), by decide +kernel, by decide, by decide, by decide +kernel, rfl, rfl⟩,
    by decide +kernel⟩

theorem witness_VerdictEndDeliversItsFences :
    (let s := busy { exchange .verdict none none with carried := [0] } (some ⟨[], 0⟩);
      (s.port 3).exchange = some { exchange .verdict none none with carried := [0] } ∧ (s.follower 7).state ≠ .retiring) ∧
    (let s := (busy (exchange .verdict none none) (some ⟨[], 0⟩)).setFollower 7 { record7 with state := .retiring };
      (s.port 3).exchange = some (exchange .verdict none none) ∧ (s.follower 7).state = .retiring) := by decide +kernel

theorem witness_TransmitGuardHaltsThePort :
    let s := { probing with elapsed := 1 + elapsedNs 400000 }
    (s.port 3).transmitting = some ⟨probeOf59, 0⟩ ∧ 0 + elapsedNs 400000 < s.elapsed := by decide +kernel

/-! ### Requests -/

theorem witness_AmendRackWritesItsMarkedFields :
    scene.link.ready = true ∧ ((0x000001#24).getLsbD 0 = true ∧ 1 < (0x02 : Byte).toNat) ∧ (3 : RackId).val = (0x03 : Byte).toNat ∧
    ((0x0FF806#24).getLsbD 0 = false ∧ (0x0FF806#24).getLsbD 10 = false ∧ (0x0FF806#24).getLsbD 11 = true ∧ (0x000002#24).getLsbD 11 = false) ∧
    ((scene.port 3).state = .running ∧ (scene.port 4).state ≠ .running ∧ (scene.rack 3).drift.persistence.standing = false) ∧
    (let s := awaiting.setFollower 7 { record7 with state := .retiring };
      s.link.ready = true ∧ (s.port 3).state = .running ∧ (s.follower 7).state = .retiring ∧
        ((s.port 3).exchange.any fun x => x.follower == 7) = true) := by
  decide +kernel

theorem witness_AmendRowActsAtOnce :
    locked.link.ready = true ∧ (0x54 : Byte).getLsbD 4 = true ∧ (0x54 : Byte).getLsbD 6 = true ∧ (0x54 : Byte).getLsbD 2 = true ∧
    100 < ({ locked with row := coasting } : State).row.currentUr := by decide +kernel

theorem witness_LinkAndLineRequestsAct :
    scene.link.ready = true ∧ 3 < (0x04 : Byte).toNat ∧ 8 < (0x09 : Byte).toNat ∧
    ((0x03 : Byte).toNat = (3 : Fin 4).val ∧ (0x0B : Byte).toNat = (11 : RackId).val ∧
      [LineFunction.level, .anyWarning, .anyDrift, .oneRack, .notLocked, .holdover, .secondPulse, .fenceBacklog, .portHalted][(0x08 : Byte).toNat]? =
        some .portHalted ∧ (0x01 : Byte).toNat ≤ 1) := by decide +kernel

/-- The Fence backlog line at 47 and 48 fences, active high (R167). -/
theorem test_fence_backlog_line :
    let s (n : Nat) : State := { scene with
      lines := scene.lines.set 1 ⟨.fenceBacklog, true, 0, false⟩, fences := { scene.fences with list := List.replicate n fence41 } }
    ((s 47).lineHigh 1, (s 48).lineHigh 1) = (false, true) := by decide +kernel

theorem witness_ReadsReturnTheirRecords :
    waiting.link.ready = true ∧ (7 : FollowerId).val = (0x07 : Byte).toNat ∧ 11 < (0x0C : Byte).toNat ∧ (11 : RackId).val = (0x0B : Byte).toNat ∧
    (match Reference.pulse with | .hallA => 0 | .hallB => 1 | .neighbour => 2 | .pulse => 3) = (0x03 : Byte).toNat ∧ 3 < (0x04 : Byte).toNat ∧ 63 < (0x40 : Byte).toNat ∧
    waiting.fences.list[(0x03 : Byte).toNat]? = some ⟨12, 4, 5000002000000, .waiting, 4999990000000, 3⟩ ∧
    waiting.fences.list.length ≤ (0x04 : Byte).toNat := by decide +kernel

theorem witness_RefusedAndReadRequestsChangeNothing :
    (requestBytes (.mute 0) = some [0x12, 0x00] ∧ exec (.mute 0) scene = .next (after (.mute 0) scene) ∧
      (after (.mute 0) scene).link.response = [0x07]) ∧
    (requestBytes .readRow = some [0x30] ∧ exec .readRow scene = .next (after .readRow scene)) :=
  ⟨⟨rfl, rfl, by decide +kernel⟩, rfl, rfl⟩

theorem witness_StartUpIntervalAnswersNotReady :
    State.reset.link.ready = false ∧ requestBytes .restartRow = some [0x32] ∧ Instr.restartRow ≠ .identify ∧
      (∀ code, Instr.restartRow ≠ .unknownRequest code) ∧ (∀ clocked, Instr.restartRow ≠ .managementFrameAbort clocked) :=
  ⟨rfl, rfl, by decide, fun _ => by simp, fun _ => by simp⟩

theorem witness_EventFlagsStandUntilRead :
    let s := scene.raiseRack 3 .halted
    exec .identify s = .next (after .identify s) ∧ Instr.identify ≠ .powerOnReset ∧ Instr.identify ≠ .readEvents ∧
      s.link.events.portHalted.getLsbD 3 = true ∧ (∀ m, Instr.identify ≠ .setEventMask m) :=
  ⟨rfl, by decide, by decide, by decide +kernel, fun _ => by simp⟩

/-! ### Frames -/

theorem witness_RequestFramesRoundTrip :
    (Instr.order 7 1).wf = true ∧ requestBytes (.order 7 1) = some [0x18, 7, 1] ∧ (Instr.managementFrameAbort [0x18, 7]).wf = true ∧
    requestBytes (.managementFrameAbort [0x18, 7]) = some [0x18, 7] ∧ exec (.order 7 1) ready = .next (after (.order 7 1) ready) ∧
    ((onWires (.receiving [0x18, 7]) (.byte 1)).link.frame = .receiving [0x18, 7] ∧ [0x18, 7] ++ [1] = [0x18#8, 7, 1]) ∧
    ((onWires (.receiving [0x18]) (.byte 7)).link.frame = .receiving [0x18] ∧ [0x18] ++ [7] = [0x18#8, 7, 1].take 2) ∧
    (onWires .closed .select).link.frame = .closed ∧ (onWires .awaitRise .select).link.frame = .awaitRise ∧
    ((onWires (.taken 1) .select).link.frame = .taken 1 ∧ 1 < (onWires (.taken 1) .select).link.response.length) ∧
    ((onWires (.taken 2) .select).link.frame = .taken 2 ∧ (onWires (.taken 2) .select).link.response.length ≤ 2) :=
  ⟨rfl, by decide, rfl, rfl, rfl, ⟨rfl, by decide⟩, ⟨rfl, by decide⟩, rfl, rfl, ⟨rfl, by decide⟩, rfl, by decide⟩

theorem witness_ReplyAndMarkFramesRoundTrip :
    (reply59.t2 < 2 ^ 64 ∧ reply59.t3 < 2 ^ 64 ∧ reply59.asks.length ≤ 3 ∧
      ∀ a ∈ reply59.asks, (match a with | .date _ c => decide (c < 2 ^ 64) | .fence _ l => decide (l < 2 ^ 64)) = true) ∧
    (13 : Byte) ≠ 12 ∧ 1700000000000000000 < 2 ^ 64 ∧ 80 < 2 ^ 32 := by decide +kernel

/-! ### Invariants, at the part of 5.9 with its exchange in flight -/

/-- Two reads of the row and the reference Hall A wait. -/
def standing : State := { awaiting with pending := [.readRow, .readReference 0] }

theorem standing_steps : step standing = .next (next standing) := rfl

theorem standing_followers (i : FollowerId) : standing.follower i = .powerOn ∨ i = 7 ∧ standing.follower i = { record7 with nextDue := 5000250000000 } := by
  revert i; decide +kernel

theorem standing_ports (p : RackId) :
    standing.rack p = .powerOn ∨ p = 3 ∧ standing.rack p = { Rack.powerOn with port := { port3 with
      activity := .exchange, sequence := 118, exchange := some (exchange .awaiting (some (elapsedNs 1000000)) none) } } := by
  revert p; decide +kernel

theorem witness_RowRecordStaysSound : standing.RowHolds ∧ step standing = .next (next standing) :=
  ⟨⟨by constructor <;> decide +kernel, ⟨by decide +kernel, rfl⟩, fun r => by cases r <;> decide +kernel⟩, standing_steps⟩

theorem witness_DesignationsStaySound : standing.SelectorHolds ∧ step standing = .next (next standing) := by
  refine ⟨⟨by decide +kernel, fun r h => ?_, by decide +kernel, by decide +kernel, fun r => ?_⟩, standing_steps⟩
  · have : r = .hallA := (Option.some.inj h).symm
    subst this; decide +kernel
  · cases r <;> rfl

theorem witness_FollowerRecordsStaySound : standing.FollowersSound ∧ step standing = .next (next standing) := by
  refine ⟨fun i => ?_, standing_steps⟩
  rcases standing_followers i with h | ⟨-, h⟩ <;> rw [h] <;> constructor <;>
    simp [Follower.powerOn, record7, Follower.published, Estimate.empty]

theorem witness_PortAndSlotPairsStayDistinct : standing.PairsDistinct ∧ step standing = .next (next standing) := by
  refine ⟨fun i j hi hj _ _ => ?_, standing_steps⟩
  rcases standing_followers i with h | ⟨h, -⟩
  · exact absurd (by rw [h]; rfl) hi
  · rcases standing_followers j with h' | ⟨h', -⟩
    · exact absurd (by rw [h']; rfl) hj
    · rw [h, h']

theorem witness_EstimatesStayInRange : standing.EstimatesHold ∧ step standing = .next (next standing) := by
  refine ⟨⟨fun i => ?_, fun p => ?_⟩, standing_steps⟩
  · rcases standing_followers i with h | ⟨-, h⟩ <;> rw [h] <;> constructor <;> constructor <;> decide +kernel
  · unfold State.port
    rcases standing_ports p with h | ⟨-, h⟩ <;> rw [h] <;> decide +kernel

theorem witness_FenceListStaysOrdered : standing.FencesHold ∧ step standing = .next (next standing) := by
  have hl : standing.fences.list = [fence41] := rfl
  refine ⟨⟨by rw [hl]; exact List.pairwise_singleton _ _, by decide +kernel, fun f hf => ?_, by decide +kernel, fun f hf => ?_⟩, standing_steps⟩
  · rw [hl, List.mem_singleton] at hf; subst hf; decide +kernel
  · rw [hl, List.mem_singleton] at hf; subst hf; decide +kernel

theorem witness_PortsStaySound : standing.PortsHold ∧ step standing = .next (next standing) := by
  refine ⟨⟨fun p => ?_, fun p x hx => ?_, fun i hi => ?_⟩, standing_steps⟩
  · unfold State.port
    rcases standing_ports p with h | ⟨-, h⟩ <;> rw [h] <;> constructor <;> simp [Rack.powerOn, Port.powerOn, port3, exchange]
  · unfold State.port at hx
    rcases standing_ports p with h | ⟨hp, h⟩
    · rw [h] at hx; cases hx
    · rw [h] at hx
      have : x = exchange .awaiting (some (elapsedNs 1000000)) none := (Option.some.inj hx).symm
      subst this; subst hp; decide +kernel
  · rcases standing_followers i with h | ⟨-, h⟩ <;> rw [h] at hi <;> cases hi

theorem witness_DriftFieldsStaySound : standing.DriftHolds ∧ step standing = .next (next standing) := by
  refine ⟨fun p => ?_, standing_steps⟩
  rcases standing_ports p with h | ⟨-, h⟩ <;> rw [h] <;> constructor <;> decide +kernel

end Sys2Proof.Tests
end

/-! PROOFS. The requests of Chapter 4 that retire, look up and order followers: one equation for each answer a request can give, and from them the statements of the family The Follower Table. -/

namespace Sys2Proof.Machine

/-! ## Operands -/

/-- A follower operand names the record of its value (R51). -/
theorem followerOf_eq {b : Byte} {i : FollowerId} (h : i.val = b.toNat) : followerOf b = i := Fin.ext h.symm

theorem rackOf_isNone_iff {b : Byte} : (rackOf b).isNone = true ↔ 11 < b.toNat := by
  unfold rackOf
  split <;> simp <;> omega

theorem slotOf_isNone_iff {b : Byte} : (slotOf b).isNone = true ↔ 39 < b.toNat := by
  unfold slotOf
  split <;> simp <;> omega

/-- The bytes that name no order kind (R170). -/
theorem OrderKind.ofCode_eq_none {b : Byte} (h : b.toNat = 0 ∨ 4 < b.toNat) : OrderKind.ofCode b = none := by
  have named (v : Byte) (hv : 1 ≤ v.toNat ∧ v.toNat ≤ 4) : b ≠ v := fun e => by subst e; omega
  simp [OrderKind.ofCode, named]

/-! ## Records -/

theorem FollowerState.active_eq_false_iff {t : FollowerState} :
    t.active = false ↔ t = .vacant ∨ t = .muted ∨ t = .retiring := by cases t <;> decide

theorem FollowerState.active_iff {t : FollowerState} :
    t.active = true ↔ ¬ (t = .vacant ∨ t = .muted ∨ t = .retiring) := by
  rw [← FollowerState.active_eq_false_iff, Bool.not_eq_false]

theorem Follower.holds_iff {f : Follower} {port slot : Byte} :
    f.holds port slot = true ↔ f.state ≠ .vacant ∧ f.port.val = port.toNat ∧ f.slot.val = slot.toNat := by
  simp [Follower.holds, and_assoc]

theorem State.inFlight_iff {s : State} {i : FollowerId} :
    s.inFlight i = true ↔ ∃ x, (s.port (s.follower i).port).exchange = some x ∧ x.follower = i := by
  simp [State.inFlight, Option.any_eq_true]

/-! ## Lookup -/

/-- A lookup finds the lowest record that satisfies the predicate. -/
theorem State.findFollower_eq_some {s : State} {p : Follower → Bool} {i : FollowerId}
    (hi : p (s.follower i) = true) (hlow : ∀ j < i, p (s.follower j) = false) : s.findFollower p = some i := by
  cases h : s.findFollower p with
  | none => exact absurd (s.findFollower_none h i) (by simp [hi])
  | some k =>
    obtain ⟨hk, hklow⟩ := s.findFollower_some h
    rcases lt_trichotomy k i with hki | rfl | hik
    · exact absurd (hlow k hki) (by simp [hk])
    · rfl
    · exact absurd (hklow i hik) (by simp [hi])

theorem State.findFollower_eq_none {s : State} {p : Follower → Bool} (h : ∀ i, p (s.follower i) = false) :
    s.findFollower p = none := by
  cases hf : s.findFollower p with
  | none => rfl
  | some k => exact absurd (s.findFollower_some hf).1 (by simp [h k])

/-- Where the pairs are distinct, one record at most holds a port and slot (R54). -/
theorem State.PairsDistinct.eq_of_holds {s : State} (hd : s.PairsDistinct) {port slot : Byte} {i j : FollowerId}
    (hi : (s.follower i).holds port slot = true) (hj : (s.follower j).holds port slot = true) : i = j := by
  obtain ⟨hvi, hpi, hsi⟩ := Follower.holds_iff.mp hi
  obtain ⟨hvj, hpj, hsj⟩ := Follower.holds_iff.mp hj
  exact hd i j hvi hvj (Fin.ext (hpi.trans hpj.symm)) (Fin.ext (hsi.trans hsj.symm))

/-! ## Vacating (R63) -/

/-- The end of an order raises the follower notice event where the record asks for it, and no other (R70, R121). -/
theorem State.endOrder_link (s : State) (i : FollowerId) (how : OrderEnd) :
    (s.endOrder i how).link = { s.link with events := { s.link.events with
      followerNotice := s.link.events.followerNotice || ((s.follower i).pendingOrder.isSome && (s.follower i).notify.onOrder) } } := by
  dsimp only [State.endOrder]
  cases (s.follower i).pendingOrder <;> simp [State.noticeIf_link]

theorem State.vacate_link (s : State) (i : FollowerId) :
    (s.vacate i).link = { s.link with events := { s.link.events with
      followerNotice := s.link.events.followerNotice || ((s.follower i).pendingOrder.isSome && (s.follower i).notify.onOrder) } } := by
  simp [State.vacate, State.endOrder_link]

/-- Vacating writes the records, the fences and the link, and nothing else. -/
theorem State.vacate_frame (s : State) (i : FollowerId) :
    { s.vacate i with followers := s.followers, fences := s.fences, link := s.link } = s := by
  simp only [State.vacate_elapsed, State.vacate_row, State.vacate_selector, State.vacate_racks, State.vacate_lines,
    State.vacate_pulseWindow, State.vacate_boundaries, State.vacate_choices, State.vacate_pending, State.vacate_wires]

theorem State.reset_follower (i : FollowerId) : State.reset.follower i = .powerOn := by
  simp [State.follower, State.reset]

/-- The record vacated with its pending order cancelled, field by field (R63). -/
theorem Follower.vacated_ended_cancelled (f : Follower) :
    (f.ended .cancelled).vacated = { Follower.powerOn with
      lastOutcome := f.pendingOrder.elim f.lastOutcome fun o => some (.cancelled, o.kind)
      noticed := f.noticed || (f.pendingOrder.isSome && f.notify.onOrder) } := by
  unfold Follower.ended Follower.vacated
  cases f.pendingOrder <;> simp

/-! ## RETIRE (R60, R61) -/

section Retire

variable {s : State} {b : Byte} {i : FollowerId}

theorem exec_retire_of_vacant (hi : i.val = b.toNat) (hr : s.link.ready = true) (hv : (s.follower i).state = .vacant) :
    exec (.retire b) s = .next (s.answer .state []) := by
  simp [exec, execRetire, State.request_of_ready, followerOf_eq hi, hr, hv, State.refuse]

theorem exec_retire_of_retiring (hi : i.val = b.toNat) (hr : s.link.ready = true)
    (ht : (s.follower i).state = .retiring) : exec (.retire b) s = .next (s.answer .pending []) := by
  simp [exec, execRetire, State.request_of_ready, followerOf_eq hi, hr, ht]

/-- RETIRE of a record neither Vacant nor Retiring turns on the exchange alone. -/
theorem exec_retire_of_enrolled (hi : i.val = b.toNat) (hr : s.link.ready = true) (hv : (s.follower i).state ≠ .vacant)
    (ht : (s.follower i).state ≠ .retiring) :
    exec (.retire b) s = .next (if s.inFlight i
      then (s.setFollower i { s.follower i with state := .retiring }).answer .pending []
      else (s.vacate i).answer .done []) := by
  simp only [exec, execRetire, State.request_of_ready _ _ _ hr, followerOf_eq hi]
  cases h : (s.follower i).state with
  | vacant => exact absurd h hv
  | retiring => exact absurd h ht
  | settling | trusted | stale | muted => rfl

end Retire

/-! ## FIND-FOLLOWER (R71) -/

section FindFollower

variable {s : State} {port slot : Byte}

/-- FIND-FOLLOWER's operands name no port or no slot (R176). -/
theorem pairOutOfRange_iff :
    ((rackOf port).isNone || (slotOf slot).isNone) = true ↔ 11 < port.toNat ∨ 39 < slot.toNat := by
  rw [Bool.or_eq_true, rackOf_isNone_iff, slotOf_isNone_iff]

theorem exec_findFollower_of_range (hr : s.link.ready = true) (h : 11 < port.toNat ∨ 39 < slot.toNat) :
    exec (.findFollower port slot) s = .next (s.answer .range [0x00, 0x00]) := by
  simp only [exec, execFindFollower, State.request_of_ready _ _ _ hr, pairOutOfRange_iff, if_pos h]
  rfl

theorem exec_findFollower_of_some {i : FollowerId} (hr : s.link.ready = true) (hin : ¬ (11 < port.toNat ∨ 39 < slot.toNat))
    (h : s.findFollower (fun f => f.holds port slot) = some i) :
    exec (.findFollower port slot) s = .next (s.answer .done [BitVec.ofNat 8 i.val, (s.follower i).state.code]) := by
  simp only [exec, execFindFollower, State.request_of_ready _ _ _ hr, pairOutOfRange_iff, if_neg hin, h]

theorem exec_findFollower_of_none (hr : s.link.ready = true) (hin : ¬ (11 < port.toNat ∨ 39 < slot.toNat))
    (h : s.findFollower (fun f => f.holds port slot) = none) :
    exec (.findFollower port slot) s = .next (s.answer .notFound [0x00, 0x00]) := by
  simp only [exec, execFindFollower, State.request_of_ready _ _ _ hr, pairOutOfRange_iff, if_neg hin, h]
  rfl

end FindFollower

/-! ## ORDER (R114), FIND-NOTICED (R72) -/

section Order

variable {s : State} {b kind : Byte} {i : FollowerId} {k : OrderKind}

theorem exec_order_of_range (hr : s.link.ready = true) (h : kind.toNat = 0 ∨ 4 < kind.toNat) :
    exec (.order b kind) s = .next (s.answer .range []) := by
  simp [exec, execOrder, State.request_of_ready, hr, OrderKind.ofCode_eq_none h, State.refuse]

/-- ORDER of a kind that has a code: the checks of R114 after RANGE, in order. -/
theorem exec_order_of_kind (hi : i.val = b.toNat) (hr : s.link.ready = true) (hk : OrderKind.ofCode kind = some k) :
    exec (.order b kind) s = .next (
      if (s.follower i).state.active = false then s.answer .state []
      else if (s.follower i).pendingOrder.isSome then s.answer .busy []
      else if k = .step ∧ ((s.follower i).published.valid = false ∨ (s.follower i).holding = true) then s.answer .state []
      else (s.setFollower i { s.follower i with pendingOrder := some ⟨k, 0⟩ }).answer .done []) := by
  simp only [exec, execOrder, State.request_of_ready _ _ _ hr, followerOf_eq hi, hk, FollowerState.active_eq_false_iff]
  rfl

theorem exec_findNoticed_of_none (hr : s.link.ready = true) (h : ∀ i, (s.follower i).noticed = false) :
    exec .findNoticed s = .next (s.answer .notFound [0x00, 0x00, 0x00, 0x00]) := by
  have hf : s.findFollower (fun f => f.noticed) = none := State.findFollower_eq_none h
  simp only [exec, execFindNoticed, State.request_of_ready _ _ _ hr, hf]
  rfl

theorem exec_findNoticed_of_lowest (hr : s.link.ready = true) (hi : (s.follower i).noticed = true)
    (hlow : ∀ j < i, (s.follower j).noticed = false) :
    exec .findNoticed s = .next ((s.setFollower i { s.follower i with noticed := false }).answer .done
      ([BitVec.ofNat 8 i.val, (s.follower i).state.code] ++ outcomeBytes (s.follower i).lastOutcome)) := by
  have hf : s.findFollower (fun f => f.noticed) = some i := State.findFollower_eq_some hi hlow
  simp only [exec, execFindNoticed, State.request_of_ready _ _ _ hr, hf]

end Order

/-! ## The obligations -/

/-- Settles O25: one case for each answer; where the record becomes Vacant, each clause is what vacating does to that part of the state. -/
theorem retireVacatesOrWaits : Obligations.RetireVacatesOrWaits := by
  intro s b i hi hr
  dsimp only
  refine ⟨exec_retire_of_vacant hi hr, exec_retire_of_retiring hi hr, fun hv ht hx => ?_, fun hv ht hx => ?_⟩
  · rw [exec_retire_of_enrolled hi hr hv ht, if_pos (State.inFlight_iff.mpr hx)]
  · refine ⟨(s.vacate i).answer .done [], ?_, rfl, ?_, fun j hj => ?_, ?_, ?_, s.vacate_frame i⟩
    · rw [exec_retire_of_enrolled hi hr hv ht, if_neg (mt State.inFlight_iff.mp hx)]
    · rw [State.answer_follower, State.follower_vacate_self, Follower.vacated_ended_cancelled, State.reset_follower]
      cases (s.follower i).pendingOrder <;> rfl
    · rw [State.answer_follower, State.follower_vacate_ne s hj.symm]
    · simp [bne, beq_eq_decide]
    · simp [State.vacate_link]

/-- Settles O26: a record that holds the pair is the only one where the pairs are distinct, so the lookup finds it. -/
theorem findFollowerAnswersTheOneHolder : Obligations.FindFollowerAnswersTheOneHolder := by
  intro s port slot hr held
  refine ⟨exec_findFollower_of_range hr, fun hp hs => ?_⟩
  have hin : ¬ (11 < port.toNat ∨ 39 < slot.toNat) := by omega
  refine ⟨fun hnone => exec_findFollower_of_none hr hin (State.findFollower_eq_none fun i => ?_), fun hd i hi => ?_⟩
  · exact Bool.eq_false_iff.mpr (mt Follower.holds_iff.mp (hnone i))
  · have only : ∀ j, (s.follower j).holds port slot = true → j = i :=
      fun j hj => hd.eq_of_holds hj (Follower.holds_iff.mpr hi)
    have found : s.findFollower (fun f => f.holds port slot) = some i :=
      State.findFollower_eq_some (Follower.holds_iff.mpr hi) fun j hj => Bool.eq_false_iff.mpr fun h => hj.ne (only j h)
    exact ⟨exec_findFollower_of_some hr hin found, fun j hj => only j (Follower.holds_iff.mpr hj)⟩

/-- Settles O27: each clause of ORDER decides the checks up to its own; FIND-NOTICED is the lookup of the lowest noticed record. -/
theorem ordersArePlacedAndNoticesFound : Obligations.OrdersArePlacedAndNoticesFound := by
  intro s hr
  refine ⟨fun b kind i hi => ⟨exec_order_of_range hr, fun k hk => ?_⟩, exec_findNoticed_of_none hr, fun i hn hlow => ?_⟩
  · rw [exec_order_of_kind hi hr hk]
    refine ⟨fun ha => ?_, fun ha hb => ?_, fun ha hb => ⟨fun hstep => ?_, fun hstep => ?_⟩⟩
    · rw [if_pos ha]
    · simp [ha, hb]
    · simp [ha, hb, hstep]
    · have advisable : ¬ (k = .step ∧ ((s.follower i).published.valid = false ∨ (s.follower i).holding = true)) := by
        rintro ⟨rfl, h⟩
        simp [hstep rfl] at h
      simp [ha, hb, advisable]
  · rw [exec_findNoticed_of_lowest hr hn hlow]
    cases (s.follower i).lastOutcome <;> rfl

end Sys2Proof.Machine

/-! PROOFS. Date asks of Chapter 8: the interval's ends, one equation for each check's answer, and from them the statement of the family Dating and Storage Events. -/

namespace Sys2Proof.Machine

/-! ## The interval (R132) -/

section Interval

variable {x : Int} {u : Nat} {holdover widened : Bool}

theorem dateInterval_outOfRange (h : x + u < 0 ∨ (18446744073709551615 : Int) < x - u) :
    dateInterval x u holdover widened = .outOfRange := if_pos h

/-- An interval that meets row time is cut to it: its width is at most twice U_date, and no instant of row time is lost. -/
theorem dateInterval_dated (hlow : 0 ≤ x + u) (hhigh : x - u ≤ (18446744073709551615 : Int)) :
    ∃ first last : Nat, dateInterval x u holdover widened = .dated first last holdover widened ∧
      first ≤ last ∧ last ≤ first + 2 * u ∧ last ≤ 18446744073709551615 ∧
      (first : Int) = max (x - u) 0 ∧ (last : Int) = min (x + u) 18446744073709551615 ∧
      ∀ y : Nat, y ≤ 18446744073709551615 → (first ≤ y ∧ y ≤ last ↔ x - u ≤ y ∧ (y : Int) ≤ x + u) := by
  have meets : ¬ (x + u < 0 ∨ (instantMax : Int) < x - u) := not_or.mpr ⟨hlow.not_gt, hhigh.not_gt⟩
  have hfirst : ((max (x - u) 0).toNat : Int) = max (x - u) 0 := Int.toNat_of_nonneg (le_max_right _ _)
  have hlast : ((min (x + u) 18446744073709551615).toNat : Int) = min (x + u) 18446744073709551615 :=
    Int.toNat_of_nonneg (le_min hlow (by decide))
  refine ⟨(max (x - u) 0).toNat, (min (x + u) 18446744073709551615).toNat, if_neg meets, ?_⟩
  generalize (max (x - u) 0).toNat = first at hfirst ⊢
  generalize (min (x + u) 18446744073709551615).toNat = last at hlast ⊢
  exact ⟨by omega, by omega, by omega, hfirst, hlast, fun y hy => by omega⟩

end Interval

/-! ## The checks (R125, R131) -/

section Checks

variable {state : RowState} {f : Follower} {r : Rack} {t3 capture : Nat}

theorem dateAnswer_of_server (hk : f.kind = .server) : dateAnswer state f r t3 capture = .notStorage := if_pos hk

theorem dateAnswer_of_notReady (hk : f.kind = .storage) (hs : state = .warming ∨ state = .acquiring) :
    dateAnswer state f r t3 capture = .notReady := by
  simp [dateAnswer, hk, hs]

theorem dateAnswer_of_free (hk : f.kind = .storage) (hs : state = .free) : dateAnswer state f r t3 capture = .free := by
  simp [dateAnswer, hk, hs]

/-- A storage agent's ask in a Locked or Holdover row: the checks that remain, in order. -/
theorem dateAnswer_of_rowSet (hk : f.kind = .storage) (hs : state = .locked ∨ state = .holdover) :
    dateAnswer state f r t3 capture =
      if f.state ≠ .trusted then .notTrusted
      else if (t3 : Int) - capture < 0 then .future
      else if (f.maxAge : Int) < (t3 : Int) - capture then .tooOld
      else if r.drift.warning = .drift ∧ r.driftPolicy = .refuse then .rackDrift
      else if r.dateCeiling < f.dateU ((t3 : Int) - capture).toNat r.penalty then .tooUncertain
      else dateInterval (f.captureTime capture (t3 - capture)) (f.dateU ((t3 : Int) - capture).toNat r.penalty)
        (state == .holdover) (decide (0 < r.penalty)) := by
  rcases hs with rfl | rfl <;> simp [dateAnswer, hk]

/-- An ask of a Trusted record, of an age the record allows: the checks of the rack remain. -/
theorem dateAnswer_of_age (hk : f.kind = .storage) (hs : state = .locked ∨ state = .holdover) (ht : f.state = .trusted)
    (hage : 0 ≤ (t3 : Int) - capture) (hmax : (t3 : Int) - capture ≤ f.maxAge) :
    dateAnswer state f r t3 capture =
      if r.drift.warning = .drift ∧ r.driftPolicy = .refuse then .rackDrift
      else if r.dateCeiling < f.dateU ((t3 : Int) - capture).toNat r.penalty then .tooUncertain
      else dateInterval (f.captureTime capture (t3 - capture)) (f.dateU ((t3 : Int) - capture).toNat r.penalty)
        (state == .holdover) (decide (0 < r.penalty)) := by
  rw [dateAnswer_of_rowSet hk hs, if_neg (not_not.mpr ht), if_neg hage.not_gt, if_neg hmax.not_gt]

end Checks

/-! ## The obligation -/

/-- Settles O32: one case for each check in order, and for an ask that passes them the interval of R132 at the row time of its capture. -/
theorem dateAsksAreAnsweredByTheChecks : Obligations.DateAsksAreAnsweredByTheChecks := by
  intro state f r t3 capture answer age penalty u x
  have hpenalty : penalty = r.penalty := rfl
  have hu : u = f.dateU age.toNat r.penalty := rfl
  have hx : x = f.captureTime capture age := rfl
  clear_value penalty u x
  subst hpenalty hu hx
  dsimp only [answer, age]
  refine ⟨dateAnswer_of_server, fun hk => ⟨dateAnswer_of_notReady hk, dateAnswer_of_free hk, fun hs =>
    ⟨fun ht => ?_, fun ht hage => ?_, fun ht hold => ?_, fun ht hage hmax => ⟨fun hd hp => ?_, fun hp => ?_⟩⟩⟩⟩
  · rw [dateAnswer_of_rowSet hk hs, if_pos ht]
  · rw [dateAnswer_of_rowSet hk hs, if_neg (not_not.mpr ht), if_pos hage]
  · have notFuture : ¬ (t3 : Int) - capture < 0 := by omega
    rw [dateAnswer_of_rowSet hk hs, if_neg (not_not.mpr ht), if_neg notFuture, if_pos hold]
  · rw [dateAnswer_of_age hk hs ht hage hmax, if_pos ⟨hd, hp⟩]
  · have allowed : ¬ (r.drift.warning = .drift ∧ r.driftPolicy = .refuse) := fun ⟨hd, hr⟩ => by simp [hp hd] at hr
    rw [dateAnswer_of_age hk hs ht hage hmax, if_neg allowed]
    refine ⟨fun hu => if_pos hu, fun hu hout => ?_, fun hu hlow hhigh => ?_⟩
    · rw [if_neg hu.not_gt, dateInterval_outOfRange hout]
    · rw [if_neg hu.not_gt]
      obtain ⟨first, last, hdated, hle, hwidth, hrest⟩ := dateInterval_dated hlow hhigh
      exact ⟨first, last, hdated, hle, by omega, hrest⟩

end Sys2Proof.Machine

/-! PROOFS. What one command does, and what one step does: one case for each effect that a row of the table can have, so that a proof about all commands goes through these cases and unfolds no meaning. -/

namespace Sys2Proof

/-- The three rows of AMEND-RACK (log entry 10). -/
def Instr.amendsRack : Instr → Bool
  | .portEnable _ _ _ | .portDisable _ _ _ | .amendRackParameters _ _ _ => true
  | _ => false

/-- The commands that neither the management link nor the passing of time brings about: a reset, and the end of a Reply. -/
def Instr.comesFromOutside : Instr → Bool
  | .powerOnReset | .replyReceptionEnd _ _ => true
  | _ => false

/-- A list of commands none of which comes from outside. -/
def Instr.allOwn (l : List Instr) : Prop := ∀ c ∈ l, c.comesFromOutside = false

end Sys2Proof

namespace Sys2Proof.Machine

/-! ## The effects of the commands -/

/-- SELECT taken (R47). -/
def State.selectReference (s : State) (r : Reference) : State :=
  let t : State := { s with selector := s.selector.select r }
  if s.selector.inUse = some r then t else t.putInUse r

section Select

variable (s : State) (r : Reference)

@[simp] theorem State.selectReference_row : (s.selectReference r).row = s.row := by unfold State.selectReference; split <;> rfl
@[simp] theorem State.selectReference_followers : (s.selectReference r).followers = s.followers := by
  unfold State.selectReference; split <;> rfl
@[simp] theorem State.selectReference_racks : (s.selectReference r).racks = s.racks := by unfold State.selectReference; split <;> rfl
@[simp] theorem State.selectReference_fences : (s.selectReference r).fences = s.fences := by
  unfold State.selectReference; split <;> rfl

@[simp] theorem State.designateBackup_row : s.designateBackup.row = s.row := by unfold State.designateBackup; split <;> simp
@[simp] theorem State.designateBackup_followers : s.designateBackup.followers = s.followers := by
  unfold State.designateBackup; split <;> simp
@[simp] theorem State.designateBackup_racks : s.designateBackup.racks = s.racks := by unfold State.designateBackup; split <;> simp
@[simp] theorem State.designateBackup_fences : s.designateBackup.fences = s.fences := by
  unfold State.designateBackup; split <;> simp

end Select

/-- What command `c` can do to a state: one constructor for each effect, with the conditions under which the command's meaning has it. -/
inductive Effect (s : State) : Instr → State → Prop
  /-- An event whose condition does not hold (log entry 2), or one that has no effect. -/
  | stays {c : Instr} (hc : requestBytes c = none) : Effect s c s
  /-- A read, or a refusal. -/
  | answered {c : Instr} {bytes : List Byte} (hc : requestBytes c = some bytes) (o : Outcome) (l : List Byte) : Effect s c (s.answer o l)
  | reset : Effect s .powerOnReset { State.reset with
      link := { Link.powerOn with frame := s.link.frame.afterReset }, pending := s.pending, wires := s.wires, choices := s.choices }
  | warmUpEnd (h : s.warmUpDue = true) : Effect s .warmUpEnd s.endWarmUp
  | startUpEnd (h : s.startUpDue = true) : Effect s .startUpIntervalEnd { s with link := { s.link with ready := true } }
  | delimiter (l : LinkInput) (h : (s.ref (linkReference l)).arriving = none) :
      Effect s (.markDelimiterArrival l)
        (s.setRef (linkReference l) { s.ref (linkReference l) with arriving := some s.now })
  | linkMark (l : LinkInput) (received : List Byte) (a : Nat) (h : (s.ref (linkReference l)).arriving = some a) :
      Effect s (.linkMarkReceptionEnd l received)
        ((s.setRef (linkReference l) { s.ref (linkReference l) with arriving := none }).linkMark (linkReference l) a (parseMark received))
  | pulseMark (h : s.row.rowSet = true) : Effect s .pulseEdge s.pulseMark
  | missMark (r : Reference) (h : s.missingDue r = true) : Effect s (.missingMarkExpiry r) (s.missMark r)
  | holdoverToFree (h : s.freeDue = true) : Effect s .holdoverToFree (s.enterRowState .free)
  | boundary (h : s.boundaryDue = true) :
      Effect s .boundaryEvent ({ s with boundaries := s.boundaries + 1 } : State).deliverBoundary
  | persistence (p : RackId) : Effect s (.persistenceExpiry p) (s.takePersistenceExpiry p)
  | calm (p : RackId) : Effect s (.calmExpiry p) (s.takeCalmExpiry p)
  | pulseStart (h : s.pulseStartDue = true) : Effect s .secondPulseWindowStart { s with pulseWindow := true }
  | pulseEnd (h : s.pulseEndDue = true) : Effect s .secondPulseWindowEnd { s with pulseWindow := false }
  | clearing (h : s.clearingDue = true) : Effect s .fenceClearing s.clearFences
  | expiry (k : Fin 64) (h : s.expiryDue k = true) :
      Effect s (.fenceExpiry k) (s.setFences (s.fences.list.modify k.val s.expireFence))
  | drop (k : Fin 64) (h : s.dropDue k = true) : Effect s (.fenceDrop k) (s.dropFenceAt k.val)
  | announce (p : RackId) (h : s.announceDue p = true) :
      Effect s (.announceStart p) (s.setPort p { s.port p with
        activity := .announcing, pendingAnnounce := false
        transmitting := s.transmission (announceFrame s.now s.row.state s.row.lastStep) })
  | announced (p : RackId) (h : (s.port p).activity = .announcing) :
      Effect s (.announceEnd p) (s.setPort p { s.port p with activity := .idle, transmitting := none })
  | exchangeStart (p : RackId) (i : FollowerId) (h : s.exchangeDue p = true) (hi : s.sweepChoice p = some i) :
      Effect s (.exchangeStart p) (s.startExchange p i)
  | probeEnd (p : RackId) (x : Exchange) (hx : (s.port p).exchange = some x) (hp : x.phase = .probe) :
      Effect s (.probeEnd p) (s.setPort p { s.port p with
        exchange := some { x with phase := .awaiting, windowEnd := some (s.elapsed + (s.port p).window) }
        transmitting := none })
  | announceFails (p : RackId) (h : (s.port p).activity = .announcing) :
      Effect s (.echoMismatch p) ((s.setPort p ((s.port p).rest .idle)).decrementBudget p)
  | echoFault (p : RackId) (x : Exchange) (attempt : Bool) (hx : (s.port p).exchange = some x)
      (ha : (s.port p).activity = .exchange) (hp : x.phase = .probe ∧ attempt = true ∨ x.phase = .verdict ∧ attempt = false) :
      Effect s (.echoMismatch p) (s.faultExchange p .echo attempt)
  | timeout (p : RackId) (x : Exchange) (hx : (s.port p).exchange = some x) (h : s.replyWindowDue p = true) :
      Effect s (.replyWindowExpiry p) (s.faultExchange p .timeout true)
  | replyArrival (p : RackId) (x : Exchange) (hx : (s.port p).exchange = some x) (hp : x.phase = .awaiting) (hr : x.reply = none) :
      Effect s (.replyArrival p) (s.setPort p { s.port p with
        exchange := some { x with windowEnd := none, reply := some ⟨s.now, s.row.state, s.row.currentUr⟩ } })
  | badReply (p : RackId) (received : List Byte) (x : Exchange) (c : Capture) (k : FaultKind)
      (hx : (s.port p).exchange = some x) (hp : x.phase = .awaiting) (hr : x.reply = some c) :
      Effect s (.replyReceptionEnd p received) (s.faultExchange p k true)
  | goodReply (p : RackId) (received : List Byte) (x : Exchange) (c : Capture) (r : Reply)
      (hx : (s.port p).exchange = some x) (hp : x.phase = .awaiting) (hr : x.reply = some c)
      (hparse : parseReply (BitVec.ofNat 8 (s.follower x.follower).slot.val) x.sequence received = .ok r)
      (hfault : (⟨x.t1, r.t2, r.t3, c.t4⟩ : Timestamps).fault (s.port p).delayCeiling = none) :
      Effect s (.replyReceptionEnd p received) (s.processReply p x c r)
  | verdictEnd (p : RackId) (x : Exchange) (hx : (s.port p).exchange = some x) (hp : x.phase = .verdict) :
      Effect s (.verdictEnd p) ((s.removeCarried x.carried).endExchange p .idle)
  | unsolicited (p : RackId) (h : (s.port p).idleRunning = true) :
      Effect s (.unsolicitedFrame p)
        ((s.setPort p { s.port p with unsolicited := (s.port p).unsolicited + 1 }).decrementBudget p)
  | quietEnd (p : RackId) (h : s.quietDue p = true) :
      Effect s (.quietWindowEnd p) (s.setPort p { s.port p with activity := .idle, quietEnd := none })
  | guardTrip (p : RackId) (h : s.guardDue p = true) :
      Effect s (.transmitGuardTrip p) ((s.leaveRunning p .halted).raiseRack p .halted)
  | enrol (port slot : Byte) (o : FollowerOperands) (p : RackId) (k : Fin 40) (kind : AgentKind) (i : FollowerId)
      (hp : rackOf port = some p) (hk : slotOf slot = some k) (hfree : s.findFollower (fun f => f.holds port slot) = none)
      (hi : s.findFollower (fun f => f.state == .vacant) = some i) :
      Effect s (.enrol port slot o) ((s.setFollower i (enrolled p k kind o s.now)).answer .done [BitVec.ofNat 8 i.val])
  | amendFollower (b presence : Byte) (o : FollowerOperands) (hv : (s.follower (followerOf b)).state ≠ .vacant)
      (hr : (s.follower (followerOf b)).state ≠ .retiring) :
      Effect s (.amendFollower b presence o)
        ((s.setFollower (followerOf b) ((s.follower (followerOf b)).amend presence.toNat o)).answer .done [])
  | mute (b : Byte) (hv : (s.follower (followerOf b)).state ≠ .vacant) (hr : (s.follower (followerOf b)).state ≠ .retiring) :
      Effect s (.mute b) ((s.setFollower (followerOf b) { s.follower (followerOf b) with state := .muted }).answer .done [])
  | unmute (b : Byte) (h : (s.follower (followerOf b)).state = .muted) :
      Effect s (.unmute b) ((s.setFollower (followerOf b) { ((s.follower (followerOf b)).epoch s.now).resettle with
        consecutiveFaults := 0, nextDue := s.now }).answer .done [])
  | retireLater (b : Byte) (hv : (s.follower (followerOf b)).state ≠ .vacant) (hx : s.inFlight (followerOf b) = true) :
      Effect s (.retire b) ((s.setFollower (followerOf b) { s.follower (followerOf b) with state := .retiring }).answer .pending [])
  | retireNow (b : Byte) (hv : (s.follower (followerOf b)).state ≠ .vacant) (hr : (s.follower (followerOf b)).state ≠ .retiring)
      (hx : s.inFlight (followerOf b) = false) : Effect s (.retire b) ((s.vacate (followerOf b)).answer .done [])
  | noticeRead (i : FollowerId) (l : List Byte) :
      Effect s .findNoticed ((s.setFollower i { s.follower i with noticed := false }).answer .done l)
  | order (b kind : Byte) (k : OrderKind) (ha : (s.follower (followerOf b)).state.active = true)
      (hn : (s.follower (followerOf b)).pendingOrder = none)
      (hstep : k = .step → (s.follower (followerOf b)).published.valid = true ∧ (s.follower (followerOf b)).holding = false) :
      Effect s (.order b kind)
        ((s.setFollower (followerOf b) { s.follower (followerOf b) with pendingOrder := some ⟨k, 0⟩ }).answer .done [])
  | amendRack {c : Instr} (hc : c.amendsRack = true) (p : RackId) (presence : Nat) (o : RackOperands) :
      Effect s c ((((s.setRack p ((s.rack p).amend presence o)).amendDrift p presence o).amendEnabled p
        (marked presence 0 o.enabled >>= bitOf)).answer .done [])
  | ackWarning (b : Byte) (p : RackId) (h : (s.rack p).drift.warning ≠ .none) :
      Effect s (.ackWarning b) ((s.setDrift p { (s.rack p).drift with acknowledged := true }).answer .done [])
  | amendRow (presence : Byte) (o : RowOperands) : Effect s (.amendRow presence o) ((s.amendRow presence.toNat o).answer .done [])
  | restartRow (h : s.row.state ≠ .warming) : Effect s .restartRow (s.restartRow.answer .done [])
  | amendReference (b : Byte) (comp ceil fixed : BitVec 32) (r : Reference) :
      Effect s (.amendReference b comp ceil fixed)
        ((s.setRef r ((s.ref r).amend (r == .pulse) comp ceil fixed)).answer .done [])
  | select (b : Byte) (r : Reference) (hw : s.row.state ≠ .warming) (hu : s.usable r = true) :
      Effect s (.select b) ((s.selectReference r).answer .done [])
  | setBackup (b : Byte) (n : Option Reference) (h : n ≠ some s.selector.selected) :
      Effect s (.setBackup b)
        ((({ s with selector := { s.selector with backup := n } } : State).designateBackup).answer .done [])
  | readEvents : Effect s .readEvents
      (({ s with link := { s.link with events := Events.none } } : State).answer .done s.link.eventBytes)
  | setEventMask (mask : BitVec 16) : Effect s (.setEventMask mask)
      (({ s with link := { s.link with mask := mask.setWidth 9 } } : State).answer .done [])
  | setLine (line function polarity rack level : Byte) (w : Fin 4) (v : Line) : Effect s (.setLine line function polarity rack level)
      (({ s with lines := s.lines.set w v } : State).answer .done [])
  | abort (clocked : List Byte) : Effect s (.managementFrameAbort clocked) s.endFrame

/-! ## Each command has one of the effects -/

variable {s t : State} {c : Instr}

/-- An event that acts where its condition holds. -/
theorem Effect.of_if {u : State} (d : Bool) (hc : requestBytes c = none) (h : d = true → Effect s c u) :
    Effect s c (if d then u else s) := by
  split
  · exact h ‹_›
  · exact .stays hc

/-- A request is refused in the start-up interval, and acts after it (R160). -/
theorem Effect.of_request {bytes : List Byte} {n : Nat} {effect : State → State} (hc : requestBytes c = some bytes)
    (h : Effect s c (effect s)) : Effect s c (s.request n effect) := by
  unfold State.request
  split
  · exact h
  · exact .answered hc _ _

theorem effect_receiveReply {p : RackId} {received : List Byte} {x : Exchange} {r : Capture}
    (hx : (s.port p).exchange = some x) (hp : x.phase = .awaiting) (hr : x.reply = some r) :
    Effect s (.replyReceptionEnd p received) (s.receiveReply p x r received) := by
  unfold State.receiveReply
  dsimp only
  split
  · exact .badReply p received x r _ hx hp hr
  · rename_i y hparse
    split
    · exact .badReply p received x r _ hx hp hr
    · exact .goodReply p received x r y hx hp hr hparse ‹_›

theorem effect_echoMismatch {p : RackId} (h : execEchoMismatch p s = .next t) : Effect s (.echoMismatch p) t := by
  unfold execEchoMismatch at h
  dsimp only at h
  split at h
  · cases h; exact .announceFails p ‹_›
  · rename_i x ha hx
    cases hph : x.phase <;> simp only [hph] at h <;> cases h
    · exact .echoFault p x true hx ha (.inl ⟨hph, rfl⟩)
    · exact .stays rfl
    · exact .echoFault p x false hx ha (.inr ⟨hph, rfl⟩)
  · cases h; exact .stays rfl

theorem effect_enrol {port slot : Byte} {o : FollowerOperands} (h : execEnrol port slot o s = .next t) :
    Effect s (.enrol port slot o) t := by
  cases h
  refine .of_request rfl ?_
  split
  · rename_i p k kind hp hk _
    split
    · exact .answered rfl _ _
    · rename_i hfree
      split
      · exact .answered rfl _ _
      · exact .enrol port slot o p k kind _ hp hk (by simpa using hfree) ‹_›
  · exact .answered rfl _ _

theorem effect_retire {b : Byte} (h : execRetire b s = .next t) : Effect s (.retire b) t := by
  cases h
  refine .of_request rfl ?_
  dsimp only
  split
  · exact .answered rfl _ _
  · exact .answered rfl _ _
  all_goals
    rename_i hs
    split
    · exact .retireLater b (by simp [hs]) ‹_›
    · rename_i hx
      exact .retireNow b (by simp [hs]) (by simp [hs]) (Bool.eq_false_iff.mpr hx)

theorem effect_order {b kind : Byte} (h : execOrder b kind s = .next t) : Effect s (.order b kind) t := by
  cases h
  refine .of_request rfl ?_
  dsimp only
  split
  · exact .answered rfl _ _
  · rename_i k _
    split
    · exact .answered rfl _ _
    · rename_i hstate
      split
      · exact .answered rfl _ _
      · rename_i hnone
        split
        · exact .answered rfl _ _
        · rename_i hstep
          refine .order b kind k (FollowerState.active_iff.mpr hstate) (by simpa using hnone) fun e => ?_
          simpa [e] using hstep

theorem effect_amendRack {rack : Byte} {presence : BitVec 24} {o : RackOperands} {bytes : List Byte}
    (hc : requestBytes c = some bytes) (ha : c.amendsRack = true) : Effect s c (s.amendRack rack presence o) := by
  refine .of_request hc ?_
  dsimp only
  split
  · exact .answered hc _ _
  · split
    · exact .answered hc _ _
    · exact .amendRack ha _ _ _

theorem effect_setLine {line function polarity rack level : Byte} (h : execSetLine line function polarity rack level s = .next t) :
    Effect s (.setLine line function polarity rack level) t := by
  cases h
  refine .of_request rfl ?_
  split
  · exact .setLine _ _ _ _ _ _ _
  · exact .answered rfl _ _

/-- Every command has one of the effects. -/
theorem exec_effect (h : exec c s = .next t) : Effect s c t := by
  cases c with
  | powerOnReset => cases h; exact .reset
  | warmUpEnd => cases h; exact .of_if _ rfl .warmUpEnd
  | startUpIntervalEnd => cases h; exact .of_if _ rfl .startUpEnd
  | markDelimiterArrival l =>
    cases h
    dsimp only
    split
    · exact .delimiter l ‹_›
    · exact .stays rfl
  | linkMarkReceptionEnd l received =>
    cases h
    dsimp only
    split
    · exact .stays rfl
    · exact .linkMark l received _ ‹_›
  | pulseEdge => cases h; exact .of_if _ rfl .pulseMark
  | missingMarkExpiry r => cases h; exact .of_if _ rfl (.missMark r)
  | holdoverToFree => cases h; exact .of_if _ rfl .holdoverToFree
  | boundaryEvent => cases h; exact .of_if _ rfl .boundary
  | persistenceExpiry p => cases h; exact .persistence p
  | calmExpiry p => cases h; exact .calm p
  | secondPulseWindowStart => cases h; exact .of_if _ rfl .pulseStart
  | secondPulseWindowEnd => cases h; exact .of_if _ rfl .pulseEnd
  | fenceClearing => cases h; exact .of_if _ rfl .clearing
  | fenceExpiry k => cases h; exact .of_if _ rfl (.expiry k)
  | fenceDrop k => cases h; exact .of_if _ rfl (.drop k)
  | announceStart p => cases h; exact .of_if _ rfl (.announce p)
  | announceEnd p =>
    cases h
    split
    · exact .announced p ‹_›
    · exact .stays rfl
  | exchangeStart p =>
    cases h
    split
    · rename_i hdue
      split
      · exact .exchangeStart p _ hdue ‹_›
      · exact .stays rfl
    · exact .stays rfl
  | probeEnd p =>
    cases h
    split
    · split
      · exact .probeEnd p _ ‹_› ‹_›
      · exact .stays rfl
    · exact .stays rfl
  | echoMismatch p => exact effect_echoMismatch h
  | replyWindowExpiry p =>
    cases h
    refine .of_if _ rfl fun hdue => ?_
    cases hx : (s.port p).exchange with
    | none => simp [State.replyWindowDue, hx] at hdue
    | some x => exact .timeout p x hx hdue
  | replyArrival p =>
    cases h
    split
    · rename_i x hx
      split
      · rename_i hp
        exact .replyArrival p x hx hp.1 hp.2
      · exact .stays rfl
    · exact .stays rfl
  | replyReceptionEnd p received =>
    cases h
    split
    · split
      · exact effect_receiveReply ‹_› ‹_› ‹_›
      · exact .stays rfl
    · exact .stays rfl
  | verdictEnd p =>
    cases h
    split
    · split
      · exact .verdictEnd p _ ‹_› ‹_›
      · exact .stays rfl
    · exact .stays rfl
  | unsolicitedFrame p => cases h; exact .of_if _ rfl (.unsolicited p)
  | quietFrame p => cases h; exact .stays rfl
  | quietWindowEnd p => cases h; exact .of_if _ rfl (.quietEnd p)
  | transmitGuardTrip p => cases h; exact .of_if _ rfl (.guardTrip p)
  | enrol port slot o => exact effect_enrol h
  | amendFollower b presence o =>
    cases h
    refine .of_request rfl ?_
    dsimp only
    split
    · exact .answered rfl _ _
    · split
      · exact .answered rfl _ _
      · rename_i hs
        exact .amendFollower b presence o (fun e => hs (.inl e)) fun e => hs (.inr e)
  | mute b =>
    cases h
    refine .of_request rfl ?_
    dsimp only
    split
    · exact .answered rfl _ _
    · rename_i hs
      exact .mute b (fun e => hs (.inl e)) fun e => hs (.inr e)
  | unmute b =>
    cases h
    refine .of_request rfl ?_
    dsimp only
    split
    · exact .answered rfl _ _
    · exact .unmute b (not_not.mp ‹_›)
  | retire b => exact effect_retire h
  | readFollower b => cases h; exact .of_request rfl (.answered rfl _ _)
  | findFollower port slot =>
    cases h
    refine .of_request rfl ?_
    split
    · exact .answered rfl _ _
    · split <;> exact .answered rfl _ _
  | findNoticed =>
    cases h
    refine .of_request rfl ?_
    split
    · exact .noticeRead _ _
    · exact .answered rfl _ _
  | order b kind => exact effect_order h
  | readRack b =>
    cases h
    refine .of_request rfl ?_
    split <;> exact .answered rfl _ _
  | portEnable b presence o => cases h; exact effect_amendRack rfl rfl
  | portDisable b presence o => cases h; exact effect_amendRack rfl rfl
  | amendRackParameters b presence o => cases h; exact effect_amendRack rfl rfl
  | ackWarning b =>
    cases h
    refine .of_request rfl ?_
    split
    · exact .answered rfl _ _
    · dsimp only
      split
      · exact .answered rfl _ _
      · exact .ackWarning b _ ‹_›
  | readRow => cases h; exact .of_request rfl (.answered rfl _ _)
  | amendRow presence o => cases h; exact .of_request rfl (.amendRow presence o)
  | restartRow =>
    cases h
    refine .of_request rfl ?_
    split
    · exact .answered rfl _ _
    · exact .restartRow ‹_›
  | readReference b =>
    cases h
    refine .of_request rfl ?_
    split <;> exact .answered rfl _ _
  | amendReference b comp ceil fixed =>
    cases h
    refine .of_request rfl ?_
    split
    · exact .amendReference b comp ceil fixed _
    · exact .answered rfl _ _
  | select b =>
    cases h
    refine .of_request rfl ?_
    split
    · exact .answered rfl _ _
    · split
      · exact .answered rfl _ _
      · rename_i hs
        exact .select b _ (fun e => hs (.inl e)) (by simpa using fun e => hs (.inr (.inl e)))
  | setBackup b =>
    cases h
    refine .of_request rfl ?_
    split
    · exact .answered rfl _ _
    · split
      · exact .answered rfl _ _
      · exact .setBackup b _ ‹_›
  | readFence b =>
    cases h
    refine .of_request rfl ?_
    split
    · exact .answered rfl _ _
    · split <;> exact .answered rfl _ _
  | readEvents => cases h; exact .of_request rfl .readEvents
  | setEventMask mask => cases h; exact .of_request rfl (.setEventMask mask)
  | setLine line function polarity rack level => exact effect_setLine h
  | identify => cases h; exact .answered rfl _ _
  | unknownRequest code => cases h; exact .answered rfl _ _
  | managementFrameAbort clocked => cases h; exact .abort clocked

/-! ## What one step does -/

/-- The records of the part: everything but the link, the lines, the queues, and what is counted for the model's own use. -/
structure State.SameRecords (s t : State) : Prop where
  row : t.row = s.row
  selector : t.selector = s.selector
  followers : t.followers = s.followers
  racks : t.racks = s.racks
  fences : t.fences = s.fences

namespace State.SameRecords

theorem refl (s : State) : s.SameRecords s := ⟨rfl, rfl, rfl, rfl, rfl⟩

theorem follower (h : s.SameRecords t) (i : FollowerId) : t.follower i = s.follower i := by
  simp only [State.follower, h.followers]

theorem rack (h : s.SameRecords t) (p : RackId) : t.rack p = s.rack p := by
  simp only [State.rack, h.racks]

theorem port (h : s.SameRecords t) (p : RackId) : t.port p = s.port p := by
  simp only [State.port, h.rack]

theorem ref (h : s.SameRecords t) (r : Reference) : t.ref r = s.ref r := by
  simp only [State.ref, h.selector]

end State.SameRecords

theorem State.setFrame_records (f : LinkFrame) : s.SameRecords (s.setFrame f) := ⟨rfl, rfl, rfl, rfl, rfl⟩

theorem State.endFrame_records : s.SameRecords s.endFrame := ⟨rfl, rfl, rfl, rfl, rfl⟩

/-- The state with other queues and another count of free values: none of them belongs to the part (log entries 3, 4 and 30). -/
def State.withQueues (s : State) (pending : List Instr) (wires : List LinkEvent) (choices : Nat) : State :=
  { s with pending := pending, wires := wires, choices := choices }

section WithQueues

variable (pending : List Instr) (wires : List LinkEvent) (n : Nat)

theorem State.withQueues_records : s.SameRecords (s.withQueues pending wires n) := ⟨rfl, rfl, rfl, rfl, rfl⟩

@[simp] theorem State.withQueues_row : (s.withQueues pending wires n).row = s.row := rfl
@[simp] theorem State.withQueues_selector : (s.withQueues pending wires n).selector = s.selector := rfl
@[simp] theorem State.withQueues_fences : (s.withQueues pending wires n).fences = s.fences := rfl
@[simp] theorem State.withQueues_link : (s.withQueues pending wires n).link = s.link := rfl
@[simp] theorem State.withQueues_now : (s.withQueues pending wires n).now = s.now := rfl
@[simp] theorem State.withQueues_follower (i : FollowerId) : (s.withQueues pending wires n).follower i = s.follower i := rfl
@[simp] theorem State.withQueues_rack (p : RackId) : (s.withQueues pending wires n).rack p = s.rack p := rfl
@[simp] theorem State.withQueues_port (p : RackId) : (s.withQueues pending wires n).port p = s.port p := rfl

end WithQueues

theorem comesFromOutside_of_request {bytes : List Byte} (h : requestBytes c = some bytes) : c.comesFromOutside = false := by
  cases c <;> first | rfl | cases h

theorem allOwn_append {l l' : List Instr} (h : Instr.allOwn l) (h' : Instr.allOwn l') : Instr.allOwn (l ++ l') :=
  fun c hc => (List.mem_append.mp hc).elim (h c) (h' c)

theorem allOwn_dueIf {d : Bool} {i : Instr} (h : i.comesFromOutside = false) : Instr.allOwn (dueIf d i) := by
  intro c hc
  unfold dueIf at hc
  split at hc <;> simp_all

theorem allOwn_flatMap {α : Type} {l : List α} {f : α → List Instr} (h : ∀ a, Instr.allOwn (f a)) : Instr.allOwn (l.flatMap f) := by
  intro c hc
  obtain ⟨a, -, ha⟩ := List.mem_flatMap.mp hc
  exact h a c ha

theorem State.dueOnRack_own (s : State) (p : RackId) : Instr.allOwn (s.dueOnRack p) := by
  unfold State.dueOnRack
  repeat' apply allOwn_append
  all_goals exact allOwn_dueIf rfl

/-- No due event comes from outside. -/
theorem dueEvents_own (s : State) : Instr.allOwn s.dueEvents := by
  unfold State.dueEvents
  repeat' apply allOwn_append
  all_goals first
    | exact allOwn_dueIf rfl
    | exact allOwn_flatMap fun _ => allOwn_dueIf rfl
    | exact allOwn_flatMap fun _ => allOwn_append (allOwn_dueIf rfl) (allOwn_dueIf rfl)
    | exact allOwn_flatMap s.dueOnRack_own

/-- Everything that one step can do: time passes, the link's wires move, or a command has one of its effects, on the state with what is left of the queues. A command from outside was the front of the queue. -/
theorem step_cases (h : step s = .next t) :
    ∃ pending wires n, let u := s.withQueues pending wires n
      t = u.tick ∨ t = u ∨ (∃ f, t = u.setFrame f) ∨ t = u.endFrame ∨
        ∃ c, Effect u c t ∧ (s.pending = c :: pending ∨ c.comesFromOutside = false) := by
  unfold step at h
  split at h
  · rename_i c rest hp
    exact ⟨rest, s.wires, s.choices, .inr (.inr (.inr (.inr ⟨c, exec_effect h, .inl hp⟩)))⟩
  · split at h
    · rename_i e rest _
      refine ⟨s.pending, rest, s.choices, ?_⟩
      rcases State.linkEvent_cases ({ s with wires := rest } : State) e with hs | ⟨f, hs⟩ | hs | ⟨l, hs⟩
      all_goals rw [hs] at h
      · cases h; exact .inr (.inl rfl)
      · cases h; exact .inr (.inr (.inl ⟨f, rfl⟩))
      · cases h; exact .inr (.inr (.inr (.inl rfl)))
      · obtain ⟨bytes, hb⟩ := frameCommand_is_request l
        exact .inr (.inr (.inr (.inr ⟨_, exec_effect h, .inr (comesFromOutside_of_request hb)⟩)))
    · unfold State.idle at h
      split at h
      · cases h; exact ⟨s.pending, s.wires, s.choices, .inl rfl⟩
      · rename_i c hd
        have hc := dueEvents_own s c (by rw [hd]; exact List.mem_singleton.mpr rfl)
        exact ⟨s.pending, s.wires, s.choices, .inr (.inr (.inr (.inr ⟨c, exec_effect h, .inr hc⟩)))⟩
      · rename_i c d rest hd
        refine ⟨s.pending, s.wires, s.choices + 1, .inr (.inr (.inr (.inr ⟨_, exec_effect h, .inr ?_⟩)))⟩
        apply dueEvents_own s
        have hlt : Config.pickDue s.choices % (rest.length + 2) < (c :: d :: rest).length := Nat.mod_lt _ (Nat.succ_pos _)
        rw [hd, List.getD_eq_getElem _ _ hlt]
        exact List.getElem_mem _

/-- An invariant of the records is kept by every step if the passing of time keeps it and every effect does. -/
theorem step_keeps {P : State → Prop} (records : ∀ {s t}, s.SameRecords t → P s → P t) (tick : ∀ {s}, P s → P s.tick)
    (effect : ∀ {s t c}, Effect s c t → P s → P t) (hs : P s) (h : step s = .next t) : P t := by
  obtain ⟨pending, wires, n, hc⟩ := step_cases h
  have hu : P (s.withQueues pending wires n) := records (s.withQueues_records pending wires n) hs
  rcases hc with rfl | rfl | ⟨f, rfl⟩ | rfl | ⟨c, he, -⟩
  · exact tick hu
  · exact hu
  · exact records (State.setFrame_records f) hu
  · exact records State.endFrame_records hu
  · exact effect he hu

end Sys2Proof.Machine

/-! PROOFS. Event flags (R163): no operation of any block clears a flag or writes the mask; the statement that the flags stand until READ-EVENTS returns them. -/

namespace Sys2Proof.Machine

/-! ## Flags that stand -/

/-- Every flag and every rack bit of `e` stands in `e'` too. -/
structure Events.Stand (e e' : Events) : Prop where
  rowStateChanged : e.rowStateChanged = true → e'.rowStateChanged = true
  rowStepped : e.rowStepped = true → e'.rowStepped = true
  referenceSwitched : e.referenceSwitched = true → e'.referenceSwitched = true
  referenceFaulted : e.referenceFaulted = true → e'.referenceFaulted = true
  followerNotice : e.followerNotice = true → e'.followerNotice = true
  fenceDrop : e.fenceDrop = true → e'.fenceDrop = true
  rackWarning : ∀ k, e.rackWarning.getLsbD k = true → e'.rackWarning.getLsbD k = true
  portDegraded : ∀ k, e.portDegraded.getLsbD k = true → e'.portDegraded.getLsbD k = true
  portHalted : ∀ k, e.portHalted.getLsbD k = true → e'.portHalted.getLsbD k = true

/-- Every flag of `s` stands in `t`, and the mask is the same. -/
structure State.FlagsStand (s t : State) : Prop where
  events : s.link.events.Stand t.link.events
  mask : t.link.mask = s.link.mask

theorem Events.Stand.refl (e : Events) : e.Stand e :=
  ⟨id, id, id, id, id, id, fun _ => id, fun _ => id, fun _ => id⟩

theorem Events.Stand.trans {e f g : Events} (h : e.Stand f) (h' : f.Stand g) : e.Stand g where
  rowStateChanged := h'.rowStateChanged ∘ h.rowStateChanged
  rowStepped := h'.rowStepped ∘ h.rowStepped
  referenceSwitched := h'.referenceSwitched ∘ h.referenceSwitched
  referenceFaulted := h'.referenceFaulted ∘ h.referenceFaulted
  followerNotice := h'.followerNotice ∘ h.followerNotice
  fenceDrop := h'.fenceDrop ∘ h.fenceDrop
  rackWarning k := h'.rackWarning k ∘ h.rackWarning k
  portDegraded k := h'.portDegraded k ∘ h.portDegraded k
  portHalted k := h'.portHalted k ∘ h.portHalted k

theorem Events.stand_raise (e : Events) (x : Event) : e.Stand (e.raise x) := by
  cases x <;> constructor <;> simp +contextual [Events.raise]

theorem Events.stand_raiseRack (e : Events) (p : RackId) (x : RackEvent) : e.Stand (e.raiseRack p x) := by
  cases x <;> constructor <;> simp +contextual [Events.raiseRack]

section Operations

variable {s t u : State}

theorem State.FlagsStand.trans (h : s.FlagsStand t) (h' : t.FlagsStand u) : s.FlagsStand u :=
  ⟨h.events.trans h'.events, h'.mask.trans h.mask⟩

/-- An operation that leaves the link as it is. -/
theorem State.FlagsStand.of_eq (h : t.link = s.link) : s.FlagsStand t := by
  constructor <;> rw [h]
  exact .refl _

theorem State.FlagsStand.refl (s : State) : s.FlagsStand s := .of_eq rfl

/-- An operation that keeps the flags, after writes that leave the link as it is. -/
theorem State.FlagsStand.after (h : t.FlagsStand u) (e : t.link = s.link := by rfl) : s.FlagsStand u :=
  .trans (.of_eq e) h

/-- An operation that keeps the flags, after others that do. -/
theorem State.FlagsStand.last (h : t.FlagsStand u) (h' : s.FlagsStand t) : s.FlagsStand u := h'.trans h

/-- A fold of operations that keep the flags keeps them. -/
theorem State.flagsStand_foldl {α : Type} {f : State → α → State} (h : ∀ (t : State) a, t.FlagsStand (f t a)) (l : List α) (s : State) :
    s.FlagsStand (l.foldl f s) := by
  induction l generalizing s with
  | nil => exact .refl s
  | cons a l ih => exact (h s a).trans (ih (f s a))

/-- Operations from two branches. -/
theorem State.FlagsStand.ite {d : Prop} [Decidable d] (h : s.FlagsStand t) (h' : s.FlagsStand u) :
    s.FlagsStand (if d then t else u) := by
  split
  · exact h
  · exact h'

variable (s)

theorem State.flagsStand_raise (e : Event) : s.FlagsStand (s.raise e) := ⟨Events.stand_raise _ e, rfl⟩

theorem State.flagsStand_raiseRack (p : RackId) (e : RackEvent) : s.FlagsStand (s.raiseRack p e) :=
  ⟨Events.stand_raiseRack _ p e, rfl⟩

theorem State.flagsStand_answer (o : Outcome) (l : List Byte) : s.FlagsStand (s.answer o l) := ⟨.refl _, rfl⟩

theorem State.flagsStand_raiseIf (c : Bool) (e : Event) : s.FlagsStand (s.raiseIf c e) := by
  cases c
  · exact .refl s
  · exact s.flagsStand_raise e

theorem State.flagsStand_enterRowState (x : RowState) : s.FlagsStand (s.enterRowState x) :=
  .after (State.flagsStand_raiseIf { s with row := { s.row with state := x } } _ _)

/-! ### Followers -/

theorem State.flagsStand_noticeIf (c : Bool) (i : FollowerId) : s.FlagsStand (s.noticeIf c i) := by
  cases c
  · exact .refl s
  · exact .after (State.flagsStand_raise (s.setFollower i { s.follower i with noticed := true }) .followerNotice)

theorem State.flagsStand_endOrder (i : FollowerId) (how : OrderEnd) : s.FlagsStand (s.endOrder i how) := by
  dsimp only [State.endOrder]
  split
  · exact .refl s
  · exact .after (State.flagsStand_noticeIf _ _ _)

theorem State.flagsStand_addAttempt (i : FollowerId) : s.FlagsStand (s.addAttempt i) := by
  dsimp only [State.addAttempt]
  split
  · exact .refl s
  · exact .ite (s.flagsStand_endOrder i _) (.of_eq rfl)

theorem State.flagsStand_goStale (i : FollowerId) : s.FlagsStand (s.goStale i) :=
  .after (State.flagsStand_noticeIf _ _ _)

theorem State.flagsStand_countFault (i : FollowerId) (k : FaultKind) : s.FlagsStand (s.countFault i k) :=
  .ite (.after (State.flagsStand_goStale _ _)) (.of_eq rfl)

theorem State.flagsStand_vacate (i : FollowerId) : s.FlagsStand (s.vacate i) :=
  .trans (.after (State.flagsStand_endOrder _ i _)) (.of_eq rfl)

theorem State.flagsStand_ageTest : s.FlagsStand s.ageTest :=
  State.flagsStand_foldl (fun t i => .ite (t.flagsStand_goStale i) (.refl t)) _ _

/-! ### Drift Watch -/

theorem State.flagsStand_takePersistenceExpiry (p : RackId) : s.FlagsStand (s.takePersistenceExpiry p) :=
  .ite (.ite (.after (State.flagsStand_raiseRack _ _ _)) (.of_eq rfl)) (.refl s)

theorem State.flagsStand_takeCalmExpiry (p : RackId) : s.FlagsStand (s.takeCalmExpiry p) :=
  .ite (.ite (.after (State.flagsStand_raiseRack _ _ _)) (.of_eq rfl)) (.refl s)

theorem State.flagsStand_takeExpiries (p : RackId) : s.FlagsStand (s.takeExpiries p) :=
  (s.flagsStand_takePersistenceExpiry p).trans (State.flagsStand_takeCalmExpiry _ p)

theorem State.flagsStand_evaluateRack (p : RackId) : s.FlagsStand (s.evaluateRack p) :=
  .ite (.refl s) ((s.flagsStand_takeExpiries p).trans (.of_eq rfl))

theorem State.flagsStand_deliverBoundary : s.FlagsStand s.deliverBoundary :=
  s.flagsStand_ageTest.trans (State.flagsStand_foldl State.flagsStand_evaluateRack _ _)

theorem State.flagsStand_driftRestart (p : RackId) : s.FlagsStand (s.driftRestart p) :=
  (s.flagsStand_takeExpiries p).trans (.ite (.after (State.flagsStand_raiseRack _ _ _)) (.of_eq rfl))

theorem State.flagsStand_amendDrift (p : RackId) (presence : Nat) (o : RackOperands) : s.FlagsStand (s.amendDrift p presence o) :=
  .ite ((s.flagsStand_takeExpiries p).trans (.of_eq rfl)) (.refl s)

/-! ### Rack ports -/

theorem State.flagsStand_decrementBudget (p : RackId) : s.FlagsStand (s.decrementBudget p) :=
  .ite (.after (State.flagsStand_raiseRack _ _ _)) (.of_eq rfl)

theorem State.flagsStand_endExchange (p : RackId) (a : Activity) : s.FlagsStand (s.endExchange p a) := by
  unfold State.endExchange
  split
  · exact .refl s
  · exact .ite (.after (State.flagsStand_vacate _ _)) (.of_eq rfl)

theorem State.flagsStand_faultExchange (p : RackId) (k : FaultKind) (attempt : Bool) :
    s.FlagsStand (s.faultExchange p k attempt) := by
  unfold State.faultExchange
  split
  · exact .refl s
  · exact ((State.FlagsStand.ite (s.flagsStand_addAttempt _) (.refl s)).trans (State.flagsStand_countFault _ _ _)).trans
      ((State.flagsStand_decrementBudget _ _).trans (State.flagsStand_endExchange _ _ _))

theorem State.flagsStand_crossPort (p : RackId) : s.FlagsStand (s.crossPort p) := by
  unfold State.crossPort
  split
  · exact .refl s
  · exact (s.flagsStand_endExchange p _).trans (.of_eq rfl)

theorem State.flagsStand_crossAll : s.FlagsStand s.crossAll := by
  have crossed := State.flagsStand_foldl State.flagsStand_crossPort allRacks s
  unfold State.crossAll
  generalize allRacks.foldl State.crossPort s = u at crossed ⊢
  exact crossed.trans (.of_eq rfl)

theorem State.flagsStand_leaveRunning (p : RackId) (x : PortState) : s.FlagsStand (s.leaveRunning p x) :=
  (s.flagsStand_endExchange p _).trans (.of_eq rfl)

theorem State.flagsStand_amendEnabled (p : RackId) (enabled : Option Bool) : s.FlagsStand (s.amendEnabled p enabled) := by
  unfold State.amendEnabled
  split
  · exact .of_eq (by simp)
  · dsimp only [State.disablePort]
    split
    · exact s.flagsStand_leaveRunning p _
    · exact .of_eq rfl
    · exact .refl s
  · exact .refl s

/-! ### The Row Clock and the Reference Selector -/

theorem State.flagsStand_deliverStep (n : Nat) : s.FlagsStand (s.deliverStep n) := by
  have crossed : s.FlagsStand ({ s with boundaries := s.boundaries + n } : State).crossAll :=
    .after (State.flagsStand_crossAll _)
  unfold State.deliverStep
  generalize ({ s with boundaries := s.boundaries + n } : State).crossAll = u at crossed ⊢
  dsimp only
  refine crossed.trans (.ite ?_ (.of_eq rfl))
  dsimp only [State.epochAndBoundary]
  split
  · exact .last (.of_eq (State.rowEpochs_link _)) (.after (State.flagsStand_deliverBoundary _))
  · exact .after (State.flagsStand_deliverBoundary _)

theorem State.flagsStand_stepRow (e u : Nat) : s.FlagsStand (s.stepRow e u) :=
  .after ((State.flagsStand_enterRowState _ _).trans ((State.flagsStand_raise _ _).trans (.of_eq rfl)))

theorem State.flagsStand_usedMark (e : Int) (u : Nat) : s.FlagsStand (s.usedMark e u) :=
  .ite ((s.flagsStand_stepRow _ _).trans (State.flagsStand_deliverStep _ _))
    (.after ((State.flagsStand_enterRowState _ _).trans (.of_eq rfl)))

theorem State.flagsStand_putInUse (r : Reference) : s.FlagsStand (s.putInUse r) :=
  .after (State.flagsStand_raise _ _)

theorem State.flagsStand_designate : s.FlagsStand s.designate := by
  refine .ite (.refl s) ?_
  split
  · exact s.flagsStand_putInUse _
  · exact .refl s

theorem State.flagsStand_loseReference : s.FlagsStand s.loseReference := by
  unfold State.loseReference
  split
  · exact .after (State.flagsStand_enterRowState _ _)
  · exact .after (State.flagsStand_enterRowState _ _)
  all_goals exact .refl s

theorem State.flagsStand_faultReference (r : Reference) : s.FlagsStand (s.faultReference r) := by
  have faulted : s.FlagsStand ((s.setRef r { s.ref r with state := .faulted, qualifyCount := 0 }).raise .referenceFaulted) :=
    .after (State.flagsStand_raise _ _)
  refine .ite (faulted.trans ?_) faulted
  unfold State.failover
  split
  · exact State.flagsStand_putInUse _ _
  · exact .after (State.flagsStand_loseReference _)

theorem State.flagsStand_inconsistentMark (r : Reference) : s.FlagsStand (s.inconsistentMark r) := by
  dsimp only [State.inconsistentMark]
  split
  · exact s.flagsStand_faultReference r
  all_goals exact .of_eq rfl

theorem State.flagsStand_inUseMark (r : Reference) (e : Int) (u : Nat) : s.FlagsStand (s.inUseMark r e u) :=
  .after (.ite (.refl _) (.ite (.after (.ite (State.flagsStand_faultReference _ r) (.refl _)))
    (.after (State.flagsStand_usedMark _ _ _))))

theorem State.flagsStand_judgeMark (r : Reference) (m : Mark) (c : Bool) : s.FlagsStand (s.judgeMark r m c) :=
  .ite (.ite (.after (State.flagsStand_inUseMark _ _ _ _)) (.after (State.flagsStand_designate _)))
    (.after (State.flagsStand_inconsistentMark _ _))

theorem State.flagsStand_linkMark (r : Reference) (a : Nat) (m : Option MarkFields) : s.FlagsStand (s.linkMark r a m) := by
  unfold State.linkMark
  split
  · exact s.flagsStand_inconsistentMark r
  · exact s.flagsStand_judgeMark _ _ _

theorem State.flagsStand_missMark (r : Reference) : s.FlagsStand (s.missMark r) := by
  dsimp only [State.missMark]
  split
  · exact .of_eq rfl
  · exact s.flagsStand_faultReference r
  all_goals exact .refl s

/-- The deliveries of a restart keep what entering Acquiring has reported. -/
theorem State.flagsStand_restartRow_of_entered :
    (({ s with row := s.row.restarted } : State).enterRowState .acquiring).FlagsStand s.restartRow := by
  have crossed := State.flagsStand_crossAll (({ s with row := s.row.restarted } : State).enterRowState .acquiring)
  unfold State.restartRow
  generalize (({ s with row := s.row.restarted } : State).enterRowState .acquiring).crossAll = u at crossed ⊢
  exact crossed.trans (.after (State.flagsStand_foldl State.flagsStand_driftRestart _ _))

theorem State.flagsStand_restartRow : s.FlagsStand s.restartRow :=
  .last s.flagsStand_restartRow_of_entered (.after (State.flagsStand_enterRowState _ _))

theorem State.flagsStand_amendRow (presence : Nat) (o : RowOperands) : s.FlagsStand (s.amendRow presence o) :=
  .trans (.after (State.flagsStand_enterRowState _ _))
    (.ite (.after (State.flagsStand_raiseIf _ _ _)) (.of_eq rfl))

/-! ### The stages of a Reply -/

theorem State.flagsStand_settleStage (p : RackId) (i : FollowerId) (theta : Int) (t4 : Nat) :
    s.FlagsStand (s.settleStage p i theta t4) := by
  dsimp only [State.settleStage]
  split
  · exact .of_eq rfl
  · exact .ite (.of_eq rfl) (.ite (.ite (.after (State.flagsStand_noticeIf _ _ _)) (.of_eq rfl)) (.of_eq rfl))
  · exact .ite (.of_eq rfl) (.of_eq rfl)
  all_goals exact .refl s

theorem State.flagsStand_holdingReport (i : FollowerId) (flag : Bool) : s.FlagsStand (s.holdingReport i flag) :=
  .ite (.refl s) (.ite (.after (State.flagsStand_endOrder _ _ _)) (.of_eq rfl))

theorem State.flagsStand_orderStage (i : FollowerId) (carried : Option OrderKind) (r : Reply) :
    s.FlagsStand (s.orderStage i carried r) := by
  have reported : s.FlagsStand ((if carried.isSome then s.addAttempt i else s).holdingReport i r.holding) :=
    (State.FlagsStand.ite (s.flagsStand_addAttempt i) (.refl s)).trans (State.flagsStand_holdingReport _ _ _)
  unfold State.orderStage
  split
  · refine .ite ?_ reported
    unfold State.takeAck
    split
    · exact .after (State.flagsStand_endOrder _ _ _)
    · exact s.flagsStand_endOrder _ _
  · exact reported

theorem State.flagsStand_processReply (p : RackId) (x : Exchange) (c : Capture) (r : Reply) :
    s.FlagsStand (s.processReply p x c r) := by
  have announced : s.FlagsStand (s.restartedAnnounce p r.restarted) := .of_eq (by simp)
  unfold State.processReply
  generalize s.restartedAnnounce p r.restarted = u at announced ⊢
  refine announced.trans ?_
  dsimp only
  split
  case h_4 => exact .trans (u.flagsStand_orderStage x.follower x.order r) (.of_eq (by simp))
  case h_5 | h_6 => exact State.flagsStand_endExchange _ _ _
  all_goals
    refine .trans ?_ (.of_eq ((State.sendVerdict_link _ _ _ _).trans
      ((State.clearBeforeVerdict_link _).trans (State.answerAsks_link _ _ _ _ _ _))))
    exact .last (State.flagsStand_orderStage _ _ _ _) (.after (State.flagsStand_settleStage _ _ _ _ _))

end Operations

/-! ## The obligation -/

/-- Every effect but a reset, the reading of the flags and the writing of the mask keeps the flags and the mask. -/
theorem Effect.flagsStand {s t : State} {c : Instr} (h : Effect s c t) (hreset : c ≠ .powerOnReset)
    (hread : c ≠ .readEvents) (hmask : ∀ m, c ≠ .setEventMask m) : s.FlagsStand t := by
  cases h with
  | reset => exact absurd rfl hreset
  | readEvents => exact absurd rfl hread
  | setEventMask m => exact absurd rfl (hmask m)
  | warmUpEnd => exact .trans (.after (State.flagsStand_enterRowState _ _)) (State.flagsStand_designate _)
  | linkMark => exact .after (State.flagsStand_linkMark _ _ _ _)
  | pulseMark => exact .after (State.flagsStand_judgeMark _ _ _ _)
  | missMark => exact s.flagsStand_missMark _
  | holdoverToFree => exact s.flagsStand_enterRowState _
  | boundary => exact .after (State.flagsStand_deliverBoundary _)
  | persistence p => exact s.flagsStand_takePersistenceExpiry p
  | calm p => exact s.flagsStand_takeCalmExpiry p
  | drop => exact s.flagsStand_raise .fenceDrop |>.trans (.of_eq rfl)
  | announceFails => exact .after (State.flagsStand_decrementBudget _ _)
  | echoFault | timeout | badReply => exact s.flagsStand_faultExchange _ _ _
  | goodReply => exact s.flagsStand_processReply _ _ _ _
  | verdictEnd => exact .after (State.flagsStand_endExchange _ _ _)
  | unsolicited => exact .after (State.flagsStand_decrementBudget _ _)
  | guardTrip => exact (s.flagsStand_leaveRunning _ _).trans (State.flagsStand_raiseRack _ _ _)
  | retireNow => exact (s.flagsStand_vacate _).trans (State.flagsStand_answer _ _ _)
  | amendRack _ p presence o =>
    have written : s.FlagsStand (s.setRack p ((s.rack p).amend presence o)) := .of_eq rfl
    exact (written.trans ((State.flagsStand_amendDrift _ _ _ _).trans (State.flagsStand_amendEnabled _ _ _))).trans
      (State.flagsStand_answer _ _ _)
  | amendRow => exact (s.flagsStand_amendRow _ _).trans (State.flagsStand_answer _ _ _)
  | restartRow => exact s.flagsStand_restartRow.trans (State.flagsStand_answer _ _ _)
  | select => exact .last (State.flagsStand_answer _ _ _) (.ite (.of_eq rfl) (.after (State.flagsStand_putInUse _ _)))
  | setBackup =>
    exact .trans (.after (.ite (.refl _) (State.flagsStand_designate _))) (State.flagsStand_answer _ _ _)
  | _ => exact ⟨.refl _, rfl⟩

theorem readEvents_mask {s t : State} (h : exec .readEvents s = .next t) : t.link.mask = s.link.mask := by
  cases h
  unfold State.request
  split <;> rfl

theorem setEventMask_events {s t : State} {m : BitVec 16} (h : exec (.setEventMask m) s = .next t) :
    t.link.events = s.link.events := by
  cases h
  unfold State.request
  split <;> rfl

/-- Settles O49: every effect but those that the statement names keeps the flags and the mask. -/
theorem eventFlagsStandUntilRead : Obligations.EventFlagsStandUntilRead := by
  intro c s t h hreset
  have stand (hread : c ≠ .readEvents) : s.link.events.Stand t.link.events := by
    by_cases hmask : ∃ m, c = .setEventMask m
    · obtain ⟨m, rfl⟩ := hmask
      rw [setEventMask_events h]
      exact .refl _
    · exact ((exec_effect h).flagsStand hreset hread fun m e => hmask ⟨m, e⟩).events
  have mask (hmask : ∀ m, c ≠ .setEventMask m) : t.link.mask = s.link.mask := by
    by_cases hread : c = .readEvents
    · subst hread
      exact readEvents_mask h
    · exact ((exec_effect h).flagsStand hreset hread hmask).mask
  refine ⟨fun hread => ?_, mask⟩
  obtain ⟨h1, h2, h3, h4, h5, h6, h7, h8, h9⟩ := stand hread
  exact ⟨h1, h2, h3, h4, h5, h6, h7, h8, h9⟩

end Sys2Proof.Machine

/-! PROOFS. The row record (Chapter 2): the moves that a command can make of it, and from them the statements of the family The Row Clock and the soundness of the row record. -/

namespace Sys2Proof.Machine

/-! ## What a mark can do to the row -/

/-- What a mark, or its absence, can make of the row record: nothing, the loss of the reference (R25), a slew (R20, R21) or a step (R19, R21). `declared` says of which declared uncertainties a used mark can be. -/
inductive Row.MarkMove (declared : Nat → Prop) (r : Row) : Row → Prop
  | same : MarkMove declared r r
  | loses (h : r.state = .acquiring ∨ r.state = .locked) : MarkMove declared r { r with
      entryTime := r.whole, entryUr := r.ur, s := r.y, state := if r.urLimit < r.ur then .free else .holdover }
  | slews (e : Int) (u : Nat) (hu : declared u) (h : r.state ≠ .warming) :
      MarkMove declared r { r.slewWrites e u with state := r.slewState e u }
  | steps (e size u : Nat) (hu : declared u) (h : r.state ≠ .warming) (hsize : size ≤ instantMax) :
      MarkMove declared r { r.stepWrites e size u with state := (r.stepWrites e size u).lockedOr }

/-- The row of `t` is a mark's move from that of `s`, and a change of its state has been reported (R32). -/
structure State.MarkMoves (declared : Nat → Prop) (s t : State) : Prop where
  row : Row.MarkMove declared s.row t.row
  reported : t.row.state ≠ s.row.state → t.link.events.rowStateChanged = true

section Marks

variable {declared : Nat → Prop} {s t u : State}

theorem State.MarkMoves.of_row_eq (h : t.row = s.row) : s.MarkMoves declared t :=
  ⟨h ▸ .same, fun hne => absurd (congrArg Row.state h) hne⟩

/-- A mark's move after writes that leave the row as it is. -/
theorem State.MarkMoves.after (h : t.MarkMoves declared u) (e : t.row = s.row) : s.MarkMoves declared u :=
  ⟨e ▸ h.row, e ▸ h.reported⟩

theorem Row.MarkMove.mono {declared' : Nat → Prop} {r r' : Row} (h : Row.MarkMove declared r r')
    (hd : ∀ u, declared u → declared' u) : Row.MarkMove declared' r r' := by
  cases h with
  | same => exact .same
  | loses h => exact .loses h
  | slews e u hu h => exact .slews e u (hd u hu) h
  | steps e size u hu h hs => exact .steps e size u (hd u hu) h hs

theorem State.MarkMoves.mono {declared' : Nat → Prop} (h : s.MarkMoves declared t) (hd : ∀ u, declared u → declared' u) :
    s.MarkMoves declared' t :=
  ⟨h.row.mono hd, h.reported⟩

theorem State.MarkMoves.ite {d : Prop} [Decidable d] (h : d → s.MarkMoves declared t) (h' : ¬ d → s.MarkMoves declared u) :
    s.MarkMoves declared (if d then t else u) := by
  split
  · exact h ‹_›
  · exact h' ‹_›

theorem State.heldInstant_le (s : State) (exact : Nat) : s.heldInstant exact ≤ instantMax := by
  unfold State.heldInstant
  split
  · have := (Config.instantBeyondRange s.choices).isLt
    simp only [instantMax] at *
    omega
  · omega

variable (s)

theorem State.loseReference_moves : s.MarkMoves declared s.loseReference := by
  by_cases h : s.row.state = .acquiring ∨ s.row.state = .locked
  · rw [s.loseReference_of_following h]
    exact ⟨.loses h, fun _ => rfl⟩
  · rw [s.loseReference_of_idle (fun e => h (.inl e)) (fun e => h (.inr e))]
    exact .of_row_eq rfl

theorem State.faultReference_moves (r : Reference) : s.MarkMoves declared (s.faultReference r) := by
  refine .ite (fun _ => ?_) fun _ => .of_row_eq rfl
  unfold State.failover
  split
  · exact .of_row_eq (by simp)
  · exact .after (State.loseReference_moves _) (by simp)

theorem State.inconsistentMark_moves (r : Reference) : s.MarkMoves declared (s.inconsistentMark r) := by
  dsimp only [State.inconsistentMark]
  split
  · exact s.faultReference_moves r
  all_goals exact .of_row_eq rfl

theorem State.slewMark_moves {v : Nat} (e : Int) (hv : declared v) (h : s.row.state ≠ .warming) :
    s.MarkMoves declared (s.slewMark e v) := by
  rw [State.slewMark_eq]
  refine ⟨.slews e v hv h, fun hne => ?_⟩
  simp [Ne.symm hne]

theorem State.stepMark_row (e v : Nat) : (s.stepMark e v).row =
    { s.row.stepWrites e (s.heldInstant e) v with state := (s.row.stepWrites e (s.heldInstant e) v).lockedOr } := by
  rw [State.stepMark, State.deliverStep_row, State.stepRow_row]

theorem State.stepRow_reported (e v : Nat) (h : (s.stepRow e v).row.state ≠ s.row.state) :
    (s.stepRow e v).link.events.rowStateChanged = true := by
  rw [State.stepRow_row] at h
  simp only [State.stepRow, State.refreshPulse_link, State.raise_link, State.enterRowState_link, Events.raise]
  rw [if_neg]
  exact fun e' => h e'.symm

theorem State.stepMark_moves (e : Nat) {v : Nat} (hv : declared v) (h : s.row.state ≠ .warming) :
    s.MarkMoves declared (s.stepMark e v) := by
  have hrow : (s.stepMark e v).row = (s.stepRow e v).row := State.deliverStep_row _ _
  refine ⟨?_, fun hne => ?_⟩
  · rw [State.stepMark_row]
    exact .steps e _ v hv h (s.heldInstant_le e)
  · exact (State.flagsStand_deliverStep _ _).events.rowStateChanged (s.stepRow_reported e v (hrow ▸ hne))

theorem State.usedMark_moves (e : Int) {v : Nat} (hv : declared v) (h : s.row.state ≠ .warming) :
    s.MarkMoves declared (s.usedMark e v) :=
  .ite (fun _ => s.stepMark_moves _ hv h) fun _ => s.slewMark_moves e hv h

theorem State.inUseMark_moves (r : Reference) (e : Int) {v : Nat} (hv : declared v) : s.MarkMoves declared (s.inUseMark r e v) := by
  refine .ite (fun _ => .of_row_eq rfl) fun hw => .ite (fun _ => ?_) fun _ => ?_
  · exact .ite (fun _ => .after (State.faultReference_moves _ r) rfl) fun _ => .of_row_eq rfl
  · exact .after (State.usedMark_moves _ e hv hw) rfl

/-- A judged mark is a used mark only where it is consistent. -/
theorem State.judgeMark_moves (r : Reference) (m : Mark) (c : Bool) (hm : c = true → declared m.declaredU) :
    s.MarkMoves declared (s.judgeMark r m c) := by
  refine .ite (fun hc => ?_) fun _ => .after (State.inconsistentMark_moves _ r) rfl
  exact .ite (fun _ => .after (State.inUseMark_moves _ r _ (hm hc)) rfl) fun _ => .of_row_eq (State.designate_row _)

theorem State.linkMark_moves (r : Reference) (a : Nat) (m : Option MarkFields) :
    s.MarkMoves (· ≤ (s.ref r).ceiling) (s.linkMark r a m) := by
  unfold State.linkMark
  split
  · exact s.inconsistentMark_moves r
  · refine s.judgeMark_moves r _ _ fun hc => ?_
    simp only [RefRecord.linkConsistent, Bool.and_eq_true, decide_eq_true_eq] at hc
    exact hc.1.2

theorem State.pulseMark_moves : s.MarkMoves (· ≤ (s.ref .pulse).ceiling) s.pulseMark := by
  refine .after (State.judgeMark_moves s.choose .pulse _ _ fun hc => ?_) rfl
  simp only [RefRecord.pulseConsistent, Bool.and_eq_true, decide_eq_true_eq] at hc
  exact hc.1

theorem State.missMark_moves (r : Reference) : s.MarkMoves (fun _ => False) (s.missMark r) := by
  dsimp only [State.missMark]
  split
  · exact .of_row_eq rfl
  · exact s.faultReference_moves r
  all_goals exact .of_row_eq rfl

end Marks

/-! ## What a command can do to the row -/

/-- The row record after an AMEND-ROW (R12, R13). -/
def Row.amended (r : Row) (presence : Nat) (o : RowOperands) : Row :=
  let row := (r.amendWander presence o).amendLimits presence o
  { row with state := row.limitState presence }

/-- What a command can make of the row record. -/
inductive State.RowMove (s : State) : Instr → Row → Prop
  | same (c : Instr) : RowMove s c s.row
  | reset : RowMove s .powerOnReset Row.powerOn
  | warmUpEnd (h : s.row.state = .warming) : RowMove s .warmUpEnd { s.row with s := s.row.y, state := .acquiring }
  | mark {c : Instr} {row : Row} (hc : (∃ l received, c = .linkMarkReceptionEnd l received) ∨ c = .pulseEdge)
      (h : Row.MarkMove (fun u => ∃ r, u ≤ (s.ref r).ceiling) s.row row) : RowMove s c row
  | missed {row : Row} (r : Reference) (h : Row.MarkMove (fun _ => False) s.row row) : RowMove s (.missingMarkExpiry r) row
  | holdoverToFree (h : s.row.state = .holdover) : RowMove s .holdoverToFree { s.row with state := .free }
  | amended (presence : Byte) (o : RowOperands) : RowMove s (.amendRow presence o) (s.row.amended presence.toNat o)
  | restarted (h : s.row.state ≠ .warming) : RowMove s .restartRow { s.row.restarted with state := .acquiring }

section Commands

variable {s t : State} {c : Instr}

@[simp] theorem State.amendDrift_row (s : State) (p : RackId) (presence : Nat) (o : RackOperands) :
    (s.amendDrift p presence o).row = s.row := by
  unfold State.amendDrift; split <;> simp

@[simp] theorem State.amendEnabled_row (s : State) (p : RackId) (enabled : Option Bool) :
    (s.amendEnabled p enabled).row = s.row := by
  unfold State.amendEnabled; split <;> simp

theorem State.amendRow_row (s : State) (presence : Nat) (o : RowOperands) : (s.amendRow presence o).row = s.row.amended presence o := by
  unfold State.amendRow State.amendFences
  dsimp only
  split <;> simp [Row.amended]

theorem State.restartRow_row (s : State) : s.restartRow.row = { s.row.restarted with state := .acquiring } := by
  unfold State.restartRow
  dsimp only
  rw [foldl_keeps State.driftRestart State.row (fun t p => t.driftRestart_row p)]
  simp

theorem warmUpDue_warming (h : s.warmUpDue = true) : s.row.state = .warming := by
  simp only [State.warmUpDue, Bool.and_eq_true, beq_iff_eq] at h
  exact h.1

theorem freeDue_holdover (h : s.freeDue = true) : s.row.state = .holdover := by
  simp only [State.freeDue, Bool.and_eq_true, beq_iff_eq] at h
  exact h.1

@[simp] theorem State.startExchange_row (s : State) (p : RackId) (i : FollowerId) : (s.startExchange p i).row = s.row := rfl

theorem State.RowMove.of_eq {row : Row} (h : row = s.row) : s.RowMove c row := h ▸ .same c

/-- Every effect is one of the row's moves. -/
theorem Effect.rowMove (h : Effect s c t) : s.RowMove c t.row := by
  cases h with
  | reset => exact .reset
  | warmUpEnd h =>
    have hrow : s.endWarmUp.row = { s.row with s := s.row.y, state := .acquiring } := by simp [State.endWarmUp]
    exact hrow ▸ .warmUpEnd (warmUpDue_warming h)
  | linkMark l received a h =>
    have moves := State.linkMark_moves (s.setRef (linkReference l) { s.ref (linkReference l) with arriving := none })
      (linkReference l) a (parseMark received)
    refine .mark (.inl ⟨l, received, rfl⟩) (moves.mono fun u hu => ⟨linkReference l, ?_⟩).row
    simpa using hu
  | pulseMark => exact .mark (.inr rfl) (s.pulseMark_moves.mono fun u hu => ⟨.pulse, hu⟩).row
  | missMark r => exact .missed r (s.missMark_moves r).row
  | holdoverToFree h => exact .holdoverToFree (freeDue_holdover h)
  | amendRow presence o =>
    rw [State.answer_row, State.amendRow_row]
    exact .amended presence o
  | restartRow h =>
    rw [State.answer_row, State.restartRow_row]
    exact .restarted h
  | _ => exact .of_eq (by simp)

end Commands

end Sys2Proof.Machine

/-! PROOFS. The statements of the family The Row Clock that hold of every command or every step: what moves row time and the steer, which row states follow which, growth in Holdover, and the soundness of the row record. -/

namespace Sys2Proof.Machine

/-! ## The fields that an amendment leaves (R12, R13) -/

section Amended

variable (r : Row) (presence : Nat) (o : RowOperands)

theorem Row.amendWander_eq : r.amendWander presence o = { r with
    wander := (r.amendWander presence o).wander
    entryUr := (r.amendWander presence o).entryUr
    entryTime := (r.amendWander presence o).entryTime } := by
  unfold Row.amendWander
  split
  · dsimp only
    split <;> rfl
  · rfl

/-- An amendment writes the row parameters, the holdover entry and the row state. -/
theorem Row.amended_keeps : { r.amended presence o with
    state := r.state, stepLimit := r.stepLimit, sanityLimit := r.sanityLimit, urLimit := r.urLimit, gain := r.gain
    wander := r.wander, entryUr := r.entryUr, entryTime := r.entryTime } = r := by
  unfold Row.amended Row.amendLimits
  dsimp only
  rw [Row.amendWander_eq]

@[simp] theorem Row.amended_whole : (r.amended presence o).whole = r.whole := (congrArg Row.whole (r.amended_keeps presence o) :)
@[simp] theorem Row.amended_frac : (r.amended presence o).frac = r.frac := (congrArg Row.frac (r.amended_keeps presence o) :)
@[simp] theorem Row.amended_residue : (r.amended presence o).residue = r.residue := (congrArg Row.residue (r.amended_keeps presence o) :)
@[simp] theorem Row.amended_y : (r.amended presence o).y = r.y := (congrArg Row.y (r.amended_keeps presence o) :)
@[simp] theorem Row.amended_s : (r.amended presence o).s = r.s := (congrArg Row.s (r.amended_keeps presence o) :)
@[simp] theorem Row.amended_ur : (r.amended presence o).ur = r.ur := (congrArg Row.ur (r.amended_keeps presence o) :)
@[simp] theorem Row.amended_rowSet : (r.amended presence o).rowSet = r.rowSet := (congrArg Row.rowSet (r.amended_keeps presence o) :)
@[simp] theorem Row.amended_lastStep : (r.amended presence o).lastStep = r.lastStep := (congrArg Row.lastStep (r.amended_keeps presence o) :)
@[simp] theorem Row.amended_fine : (r.amended presence o).fine = r.fine := by simp [Row.fine]

/-- A new H does not move Ur: Holdover and Free are rebased to the instant (R13). -/
theorem Row.currentUr_amendWander : (r.amendWander presence o).currentUr = r.currentUr := by
  unfold Row.amendWander
  split
  · dsimp only
    split <;> rename_i hs <;> simp [Row.currentUr, hs, saturateU]
  · rfl

theorem Row.amendWander_state : (r.amendWander presence o).state = r.state := (congrArg Row.state (r.amendWander_eq presence o) :)

/-- An amendment moves the row state to Acquiring from Locked, and to Free from Holdover, or not at all. -/
theorem Row.amended_state : (r.amended presence o).state = r.state ∨
    (r.state = .locked ∧ (r.amended presence o).state = .acquiring) ∨
    (r.state = .holdover ∧ (r.amended presence o).state = .free) := by
  have hs : ((r.amendWander presence o).amendLimits presence o).state = r.state := r.amendWander_state presence o
  simp only [Row.amended, Row.limitState, hs]
  split
  · cases h : r.state <;> simp
  · exact .inl rfl

/-- Ur as readers take it depends on the row state only by whether the row coasts. -/
theorem Row.currentUr_withState {x : RowState} (h : (x = .holdover ∨ x = .free) ↔ (r.state = .holdover ∨ r.state = .free)) :
    ({ r with state := x } : Row).currentUr = r.currentUr := by
  by_cases hr : r.state = .holdover ∨ r.state = .free
  · rw [Row.currentUr_of_coasting r hr, Row.currentUr_of_coasting { r with state := x } (h.mpr hr)]
  · obtain ⟨hh, hf⟩ := not_or.mp hr
    obtain ⟨hh', hf'⟩ := not_or.mp (mt h.mp hr)
    rw [Row.currentUr_of_held r hh hf, Row.currentUr_of_held { r with state := x } hh' hf']

/-- An amendment of the row does not move Ur (R13). -/
theorem Row.currentUr_amended : (r.amended presence o).currentUr = r.currentUr := by
  have limits : ((r.amendWander presence o).amendLimits presence o).currentUr = r.currentUr :=
    r.currentUr_amendWander presence o
  rw [← limits]
  refine Row.currentUr_withState _ ?_
  rw [show ((r.amendWander presence o).amendLimits presence o).state = r.state from r.amendWander_state presence o]
  rcases r.amended_state presence o with h | ⟨h, h'⟩ | ⟨h, h'⟩
  · exact h ▸ Iff.rfl
  · rw [show Row.limitState _ _ = _ from h', h]; simp
  · rw [show Row.limitState _ _ = _ from h', h]; simp

end Amended

/-! ## Row time and the steer (R14, R15) -/

section RowTime

variable {declared : Nat → Prop} {r r' : Row}

/-- Marks never set row time back. -/
theorem Row.MarkMove.fine_le (h : Row.MarkMove declared r r') (htop : r.fine ≤ topOfTime) : r.fine ≤ r'.fine := by
  cases h with
  | same | loses | slews => exact le_refl _
  | steps e => exact r.fine_le_stepBy e htop

/-- Without a used mark, row time and y stay, and the steer stays or becomes y. -/
theorem Row.MarkMove.unused (h : Row.MarkMove (fun _ => False) r r') :
    r'.fine = r.fine ∧ r'.y = r.y ∧ (r'.s = r.s ∨ r'.s = r.y) := by
  cases h with
  | same => exact ⟨rfl, rfl, .inl rfl⟩
  | loses => exact ⟨rfl, rfl, .inr rfl⟩
  | slews _ _ hu => exact hu.elim
  | steps _ _ _ hu => exact hu.elim

end RowTime

theorem State.tick_fine_le {s : State} (h : s.row.fine ≤ topOfTime) : s.row.fine ≤ s.tick.row.fine := s.row.fine_le_advance 1 h

/-- Settles O9: each of the row's moves keeps row time or, at a used mark, sets it forward. -/
theorem rowTimeAndSteerMoveByRule : Obligations.RowTimeAndSteerMoveByRule := by
  intro c s t htop h hreset
  have still {row : Row} (hf : row.fine = s.row.fine) (hy : row.y = s.row.y) (hs : row.s = s.row.s ∨ row.s = s.row.y) :
      s.row.fine ≤ row.fine ∧ s.row.fine ≤ s.tick.row.fine ∧
        ((∀ l received, c ≠ .linkMarkReceptionEnd l received) → c ≠ .pulseEdge →
          row.fine = s.row.fine ∧ row.y = s.row.y ∧ (row.s = s.row.s ∨ row.s = s.row.y)) :=
    ⟨hf.ge, State.tick_fine_le htop, fun _ _ => ⟨hf, hy, hs⟩⟩
  have hmove := (exec_effect h).rowMove
  generalize t.row = row at hmove ⊢
  cases hmove with
  | same => exact still rfl rfl (.inl rfl)
  | reset => exact absurd rfl hreset
  | warmUpEnd => exact still rfl rfl (.inr rfl)
  | mark hc hm =>
    refine ⟨hm.fine_le htop, State.tick_fine_le htop, fun hl hp => ?_⟩
    rcases hc with ⟨l, received, rfl⟩ | rfl
    · exact absurd rfl (hl l received)
    · exact absurd rfl hp
  | missed r hm =>
    obtain ⟨hf, hy, hs⟩ := hm.unused
    exact still hf hy hs
  | holdoverToFree => exact still rfl rfl (.inl rfl)
  | amended presence o => exact still (by simp) (by simp) (.inl (by simp))
  | restarted => exact still rfl rfl (.inr rfl)

/-! ## Row states (R16, R27, R32) -/

/-- The moves of the row state that the manual permits. -/
def RowState.permits (a b : RowState) : Prop :=
  (b = .warming → a = .warming) ∧ (a = .warming → b = .warming ∨ b = .acquiring) ∧ (a = .free → b ≠ .holdover)

theorem RowState.permits_refl (a : RowState) : a.permits a := ⟨id, .inl, by rintro rfl; decide⟩

theorem RowState.permits_warming_acquiring : RowState.permits .warming .acquiring := by simp [RowState.permits]

theorem RowState.permits_locked_acquiring : RowState.permits .locked .acquiring := by simp [RowState.permits]

theorem RowState.permits_holdover_free : RowState.permits .holdover .free := by simp [RowState.permits]

theorem Row.slewState_eq (r : Row) (e : Int) (u : Nat) : r.slewState e u = .acquiring ∨ r.slewState e u = .locked := by
  unfold Row.slewState Row.lockedOr
  split_ifs <;> simp

theorem Row.lockedOr_eq (r : Row) : r.lockedOr = .acquiring ∨ r.lockedOr = .locked := by
  unfold Row.lockedOr
  split_ifs <;> simp

theorem RowState.permits_following {a b : RowState} (ha : a ≠ .warming) (hb : b = .acquiring ∨ b = .locked) : a.permits b := by
  refine ⟨?_, fun h => absurd h ha, fun _ => ?_⟩ <;> rcases hb with rfl | rfl <;> simp

theorem Row.MarkMove.permitted {declared : Nat → Prop} {r r' : Row} (h : Row.MarkMove declared r r') : r.state.permits r'.state := by
  cases h with
  | same => exact RowState.permits_refl _
  | loses h =>
    refine ⟨fun hw => ?_, fun hw => ?_, fun hf => ?_⟩
    · dsimp only at hw; split at hw <;> cases hw
    all_goals rcases h with h | h <;> simp_all
  | slews e u _ h => exact RowState.permits_following h (r.slewState_eq e u)
  | steps e size u _ h => exact RowState.permits_following h (Row.lockedOr_eq _)

theorem State.RowMove.permitted {s : State} {c : Instr} {row : Row} (h : s.RowMove c row) (hc : c ≠ .powerOnReset) :
    s.row.state.permits row.state := by
  cases h with
  | same => exact RowState.permits_refl _
  | reset => exact absurd rfl hc
  | warmUpEnd h => rw [h]; exact RowState.permits_warming_acquiring
  | mark _ hm => exact hm.permitted
  | missed _ hm => exact hm.permitted
  | holdoverToFree h => rw [h]; exact RowState.permits_holdover_free
  | amended presence o =>
    rcases s.row.amended_state presence.toNat o with h | ⟨h, h'⟩ | ⟨h, h'⟩
    · rw [h]; exact RowState.permits_refl _
    · rw [h, h']; exact RowState.permits_locked_acquiring
    · rw [h, h']; exact RowState.permits_holdover_free
  | restarted h => exact RowState.permits_following h (.inl rfl)

theorem State.enterRowState_reported {s u : State} {x : RowState} (h : (s.enterRowState x).FlagsStand u)
    (hne : x ≠ s.row.state) : u.link.events.rowStateChanged = true := by
  refine h.events.rowStateChanged ?_
  rw [State.enterRowState_link, if_neg (Ne.symm hne)]

/-- Every effect but a reset reports a change of the row state (R32). -/
theorem Effect.rowState_reported {s t : State} {c : Instr} (h : Effect s c t) (hc : c ≠ .powerOnReset)
    (hne : t.row.state ≠ s.row.state) : t.link.events.rowStateChanged = true := by
  have unmoved {u : State} (hu : u.row = s.row) (hne : u.row.state ≠ s.row.state) : u.link.events.rowStateChanged = true :=
    absurd (congrArg Row.state hu) hne
  cases h with
  | reset => exact absurd rfl hc
  | warmUpEnd h =>
    refine State.enterRowState_reported (State.flagsStand_designate _) ?_
    simp [warmUpDue_warming h]
  | linkMark => exact ((State.linkMark_moves _ _ _ _).after rfl).reported hne
  | pulseMark => exact s.pulseMark_moves.reported hne
  | missMark r => exact (s.missMark_moves r).reported hne
  | holdoverToFree h =>
    refine State.enterRowState_reported (.refl _) ?_
    simp [freeDue_holdover h]
  | amendRow presence o =>
    rw [State.answer_row, State.amendRow_row] at hne
    have fences (u : State) : u.FlagsStand (u.amendFences presence.toNat o) :=
      .ite (.after (State.flagsStand_raiseIf _ _ _)) (.of_eq rfl)
    exact State.enterRowState_reported (.last (State.flagsStand_answer _ _ _) (fences _))
      fun e => hne (e.trans (s.row.amendWander_state presence.toNat o))
  | restartRow h =>
    rw [State.answer_row, State.restartRow_row] at hne
    exact State.enterRowState_reported
      (.last (State.flagsStand_answer _ _ _) s.flagsStand_restartRow_of_entered) hne
  | _ => exact unmoved (by simp) hne

/-- Settles O10: the row's moves are the permitted ones, and every change is reported; time moves neither. -/
theorem rowStateMovesAreReported : Obligations.RowStateMovesAreReported := by
  intro s t h hreset
  suffices s.row.state.permits t.row.state ∧ (t.row.state ≠ s.row.state → t.link.events.rowStateChanged = true) from
    ⟨this.1.1, this.1.2.1, this.1.2.2, this.2⟩
  obtain ⟨pending, wires, n, hc⟩ := step_cases h
  rcases hc with rfl | rfl | ⟨f, rfl⟩ | rfl | ⟨c, he, horigin⟩
  · exact ⟨RowState.permits_refl _, fun hne => absurd rfl hne⟩
  · exact ⟨RowState.permits_refl _, fun hne => absurd rfl hne⟩
  · exact ⟨RowState.permits_refl _, fun hne => absurd rfl hne⟩
  · exact ⟨RowState.permits_refl _, fun hne => absurd rfl hne⟩
  · have hc : c ≠ .powerOnReset := by
      rintro rfl
      rcases horigin with hp | ho
      · exact hreset (by simp [hp])
      · cases ho
    exact ⟨he.rowMove.permitted hc, he.rowState_reported hc⟩

/-! ## Growth in Holdover and Free (R7, R13, R26) -/

theorem Row.whole_le_fine_div (r : Row) : r.whole ≤ r.fine / unitsPerNs := by
  simp only [Row.fine, unitsPerNs]
  omega

/-- The whole part of row time never falls as time passes. -/
theorem Row.whole_le_advance (r : Row) (n : Nat) (h : r.fine ≤ topOfTime) : r.whole ≤ (r.advance n).whole := by
  refine r.whole_le_fine_div.trans (Nat.div_le_div_right ?_)
  exact le_min (Nat.le_add_right _ _) h

theorem Row.currentUr_le_advance (r : Row) (n : Nat) (h : r.fine ≤ topOfTime) : r.currentUr ≤ (r.advance n).currentUr := by
  have hgrow : growth r.wander (r.whole - r.entryTime) ≤ growth r.wander ((r.advance n).whole - r.entryTime) :=
    growth_mono (Nat.sub_le_sub_right (r.whole_le_advance n h) _)
  by_cases hc : r.state = .holdover ∨ r.state = .free
  · rw [Row.currentUr_of_coasting r hc, Row.currentUr_of_coasting (r.advance n) hc]
    exact min_le_min_right _ (Nat.add_le_add_left hgrow _)
  · have hh : r.state ≠ .holdover := fun e => hc (.inl e)
    have hf : r.state ≠ .free := fun e => hc (.inr e)
    rw [Row.currentUr_of_held r hh hf, Row.currentUr_of_held (r.advance n) hh hf]
    exact le_refl _

/-- A row that coasts before and after a mark or its absence has the same record. -/
theorem Row.MarkMove.coasting {declared : Nat → Prop} {r r' : Row} (h : Row.MarkMove declared r r')
    (hr : r.state = .holdover ∨ r.state = .free) (hr' : r'.state = .holdover ∨ r'.state = .free) : r' = r := by
  cases h with
  | same => rfl
  | loses h => rcases h with h | h <;> rcases hr with hr | hr <;> simp [h] at hr
  | slews e u => rcases r.slewState_eq e u with h | h <;> simp [h] at hr'
  | steps e size u => rcases (r.stepWrites e size u).lockedOr_eq with h | h <;> simp [h] at hr'

theorem State.RowMove.currentUr_eq {s : State} {c : Instr} {row : Row} (h : s.RowMove c row)
    (hs : s.row.state = .holdover ∨ s.row.state = .free) (ht : row.state = .holdover ∨ row.state = .free) :
    row.currentUr = s.row.currentUr := by
  cases h with
  | same => rfl
  | reset => rcases ht with h | h <;> cases h
  | warmUpEnd => rcases ht with h | h <;> cases h
  | mark _ hm => rw [hm.coasting hs ht]
  | missed _ hm => rw [hm.coasting hs ht]
  | holdoverToFree h => exact Row.currentUr_withState _ (by simp [h])
  | amended presence o => exact s.row.currentUr_amended presence.toNat o
  | restarted => rcases ht with h | h <;> cases h

/-- Settles O11: growth is the ceiling of R7; while the row coasts, only time moves Ur, and it moves it up. -/
theorem holdoverUncertaintyNeverFalls : Obligations.HoldoverUncertaintyNeverFalls := by
  refine ⟨fun w d n => ceilDiv_le_iff (by decide), fun s t htop h hs ht => ?_⟩
  obtain ⟨pending, wires, n, hc⟩ := step_cases h
  rcases hc with rfl | rfl | ⟨f, rfl⟩ | rfl | ⟨c, he, -⟩
  · exact s.row.currentUr_le_advance 1 htop
  · exact le_refl _
  · exact le_refl _
  · exact le_refl _
  · exact (he.rowMove.currentUr_eq hs ht).ge

end Sys2Proof.Machine

/-! PROOFS. The soundness of the row record: every move of the row keeps its ranges and what its state says of it. -/

namespace Sys2Proof.Machine

/-! ## Declared-u ceilings (R36) -/

/-- No declared-u ceiling differs. -/
def State.SameCeilings (s t : State) : Prop := ∀ x, (t.ref x).ceiling = (s.ref x).ceiling

section Ceilings

variable {s t u : State} {r : Reference}

theorem State.SameCeilings.of_eq (h : t.selector = s.selector) : s.SameCeilings t := fun x => by rw [State.ref, h]; rfl

theorem State.SameCeilings.refl (s : State) : s.SameCeilings s := fun _ => rfl

theorem State.SameCeilings.trans (h : s.SameCeilings t) (h' : t.SameCeilings u) : s.SameCeilings u := fun x => (h' x).trans (h x)

theorem State.SameCeilings.last (h : t.SameCeilings u) (h' : s.SameCeilings t) : s.SameCeilings u := h'.trans h

theorem State.SameCeilings.setRef {v : RefRecord} (h : v.ceiling = (s.ref r).ceiling) : s.SameCeilings (s.setRef r v) := by
  intro x
  rw [State.ref_setRef]
  split
  · rename_i e
    exact e ▸ h
  · rfl

theorem State.SameCeilings.ite {d : Prop} [Decidable d] (h : s.SameCeilings t) (h' : s.SameCeilings u) :
    s.SameCeilings (if d then t else u) := by
  split
  · exact h
  · exact h'

variable (s)

theorem State.putInUse_ceilings (r : Reference) : s.SameCeilings (s.putInUse r) :=
  .trans (.setRef (r := r) (v := { s.ref r with rejects := 0 }) rfl) fun x => by cases x <;> rfl

theorem State.designate_ceilings : s.SameCeilings s.designate := by
  refine .ite (.refl s) ?_
  split
  · exact s.putInUse_ceilings _
  · exact .refl s

theorem State.faultReference_ceilings (r : Reference) : s.SameCeilings (s.faultReference r) := by
  have faulted : s.SameCeilings ((s.setRef r { s.ref r with state := .faulted, qualifyCount := 0 }).raise .referenceFaulted) :=
    .last (.of_eq rfl) (.setRef rfl)
  refine .ite (faulted.trans ?_) faulted
  unfold State.failover
  split
  · exact State.putInUse_ceilings _ _
  · exact .last (.of_eq (State.loseReference_selector _)) fun x => by cases x <;> rfl

theorem State.inconsistentMark_ceilings (r : Reference) : s.SameCeilings (s.inconsistentMark r) := by
  dsimp only [State.inconsistentMark]
  split
  · exact s.faultReference_ceilings r
  · exact .setRef rfl
  all_goals exact .refl s

theorem State.inUseMark_ceilings (r : Reference) (e : Int) (u : Nat) : s.SameCeilings (s.inUseMark r e u) := by
  have marked : s.SameCeilings { s with selector := { s.selector with firstMark := false } } := fun x => by cases x <;> rfl
  refine marked.trans (.ite (.refl _) (.ite ?_ ?_))
  · exact .ite (.last (State.faultReference_ceilings _ r) (.setRef rfl)) (.setRef rfl)
  · exact .last (.of_eq (State.usedMark_selector _ _ _)) (.last (.setRef rfl) (.of_eq rfl))

theorem RefRecord.qualify_ceiling (v : RefRecord) : v.qualify.ceiling = v.ceiling := by
  unfold RefRecord.qualify
  split
  · rfl
  · rfl
  · split <;> rfl
  · rfl

theorem State.judgeMark_ceilings (r : Reference) (m : Mark) (c : Bool) : s.SameCeilings (s.judgeMark r m c) := by
  have recorded : s.SameCeilings (s.setRef r (((s.ref r).record m true).qualify)) := .setRef (RefRecord.qualify_ceiling _)
  exact .ite (.ite (recorded.trans (State.inUseMark_ceilings _ _ _ _)) (recorded.trans (State.designate_ceilings _)))
    (.last (State.inconsistentMark_ceilings _ r) (.setRef rfl))

theorem State.linkMark_ceilings (r : Reference) (a : Nat) (m : Option MarkFields) : s.SameCeilings (s.linkMark r a m) := by
  unfold State.linkMark
  split
  · exact s.inconsistentMark_ceilings r
  · exact s.judgeMark_ceilings _ _ _

theorem State.missMark_ceilings (r : Reference) : s.SameCeilings (s.missMark r) := by
  dsimp only [State.missMark]
  split
  · exact .setRef rfl
  · exact s.faultReference_ceilings r
  all_goals exact .refl s

/-- No declared-u ceiling exceeds the range of R36. -/
def State.CeilingsHold (s : State) : Prop := ∀ r, (s.ref r).ceiling ≤ 1000000

variable {s} {c : Instr}

theorem State.CeilingsHold.of_same (h : s.CeilingsHold) (he : s.SameCeilings t) : t.CeilingsHold := fun r => he r ▸ h r

@[simp] theorem State.amendDrift_selector (s : State) (p : RackId) (presence : Nat) (o : RackOperands) :
    (s.amendDrift p presence o).selector = s.selector := by
  unfold State.amendDrift; split <;> simp

@[simp] theorem State.amendEnabled_selector (s : State) (p : RackId) (enabled : Option Bool) :
    (s.amendEnabled p enabled).selector = s.selector := by
  unfold State.amendEnabled; split <;> simp

@[simp] theorem State.amendRow_selector (s : State) (presence : Nat) (o : RowOperands) :
    (s.amendRow presence o).selector = s.selector := by
  unfold State.amendRow State.amendFences
  dsimp only
  split <;> simp

@[simp] theorem State.startExchange_selector (s : State) (p : RackId) (i : FollowerId) :
    (s.startExchange p i).selector = s.selector := rfl

theorem Effect.ceilings (h : Effect s c t) (hs : s.CeilingsHold) : t.CeilingsHold := by
  cases h with
  | reset =>
    intro r
    cases r <;> exact (by decide : (50000 : Nat) ≤ 1000000)
  | delimiter => exact hs.of_same (.setRef rfl)
  | linkMark => exact hs.of_same (.last (State.linkMark_ceilings _ _ _ _) (.setRef rfl))
  | pulseMark => exact hs.of_same (.last (State.judgeMark_ceilings _ _ _ _) (.of_eq rfl))
  | missMark r => exact hs.of_same (s.missMark_ceilings r)
  | warmUpEnd => exact hs.of_same (.last (State.designate_ceilings _) (.of_eq rfl))
  | amendReference b comp ceil fixed r =>
    intro x
    rw [State.answer_ref, State.ref_setRef]
    split
    · exact (clampNat_bounds _ (by decide)).2
    · exact hs x
  | select b r =>
    have written : s.SameCeilings { s with selector := s.selector.select r } := fun x => by cases x <;> rfl
    exact hs.of_same (.last (.of_eq rfl) (.ite written (written.trans (State.putInUse_ceilings _ r))))
  | setBackup b n =>
    have written : s.SameCeilings { s with selector := { s.selector with backup := n } } := fun x => by cases x <;> rfl
    exact hs.of_same (.last (.of_eq rfl) (written.trans (.ite (.refl _) (State.designate_ceilings _))))
  | _ => exact hs.of_same (.of_eq (by simp))

end Ceilings

/-! ## Ranges of the row record (R1, R4, R5, R12, R15) -/

section Range

variable {r : Row}

/-- The range that a frequency-memory value has is within that of a steer (R15). -/
theorem Row.InRange.steer_of_memory (h : r.InRange) : -steerMax ≤ r.y ∧ r.y ≤ steerMax := by
  have := h.y
  simp only [memoryMax, steerMax] at *
  omega

/-- A record whose row time is set, and whose other fields stay, is in range. -/
theorem Row.InRange.setFine (h : r.InRange) (v : Nat) : (r.setFine v).InRange where
  whole := Nat.le_of_lt_succ ((Nat.div_lt_iff_lt_mul (by decide)).mpr
    ((Nat.min_le_right v topOfTime).trans_lt (by decide)))
  frac := Nat.mod_lt _ (by decide)
  top := r.setFine_fine v ▸ Nat.min_le_right _ _
  residue := h.residue
  y := h.y
  s := h.s
  lastStep := h.lastStep
  entryTime := h.entryTime
  ur := h.ur
  entryUr := h.entryUr
  stepLimit := h.stepLimit
  sanityLimit := h.sanityLimit
  urLimit := h.urLimit
  gain := h.gain
  wander := h.wander

/-- An advance keeps the ranges. -/
theorem Row.InRange.advance (h : r.InRange) (n : Nat) : (r.advance n).InRange :=
  Row.InRange.setFine (r := { r with residue := (n * ((ruScale : Int) + r.s).toNat + r.residue) % ruScale })
    { h with residue := Nat.mod_lt _ (by decide) } _

theorem Row.clampedUr_le (r : Row) : r.entryUr ≤ uMax → r.ur ≤ uMax → r.currentUr ≤ uMax := by
  intro _ hu
  unfold Row.currentUr
  split
  · exact saturateU_le _
  · exact saturateU_le _
  all_goals exact hu

/-- A used mark's declared u is within its range, by the ceiling that admitted it; every move of a mark keeps the ranges. -/
theorem Row.MarkMove.inRange {r' : Row} (h : Row.MarkMove (· ≤ 1000000) r r') (hr : r.InRange) : r'.InRange := by
  cases h with
  | same => exact hr
  | loses => exact { hr with s := hr.steer_of_memory, entryTime := hr.whole, entryUr := hr.ur }
  | slews e u =>
    exact { hr with
      y := clampMag_le _ _ (by decide)
      s := clampMag_le _ _ (by decide)
      ur := saturateU_le _ }
  | steps e size u hu _ hsize =>
    have hu' : u ≤ uMax := hu.trans (by decide)
    exact { hr.setFine (r.fine + unitsPerNs * e) with lastStep := hsize, s := hr.steer_of_memory, ur := hu' }

theorem newOr_of {α : Type} {P : α → Prop} {presence bit : Nat} {v old : α} (hv : P v) (hold : P old) : P (newOr presence bit v old) := by
  unfold newOr
  split
  · exact hv
  · exact hold

theorem Row.InRange.amendWander (h : r.InRange) (presence : Nat) (o : RowOperands) : (r.amendWander presence o).InRange := by
  have hw := (clampNat_bounds o.wander.toNat (lo := 0) (hi := 160000) (by decide)).2
  unfold Row.amendWander
  split
  · dsimp only
    split
    · exact { h with entryUr := r.clampedUr_le h.entryUr h.ur, entryTime := h.whole, wander := hw }
    · exact { h with entryUr := r.clampedUr_le h.entryUr h.ur, entryTime := h.whole, wander := hw }
    all_goals exact { h with wander := hw }
  · exact h

theorem Row.InRange.amended (h : r.InRange) (presence : Nat) (o : RowOperands) : (r.amended presence o).InRange := by
  have hw := h.amendWander presence o
  have step : 1000 ≤ newOr presence 0 (clampNat 1000 1000000 o.stepLimit.toNat) (r.amendWander presence o).stepLimit ∧
      newOr presence 0 (clampNat 1000 1000000 o.stepLimit.toNat) (r.amendWander presence o).stepLimit ≤ 1000000 :=
    newOr_of (P := fun v => 1000 ≤ v ∧ v ≤ 1000000) (clampNat_bounds _ (by decide)) hw.stepLimit
  have sanity : newOr presence 1 (clampNat 1000 100000000 o.sanityLimit.toNat) (r.amendWander presence o).sanityLimit ≤ 100000000 :=
    newOr_of (P := fun v => v ≤ 100000000) (clampNat_bounds _ (by decide)).2 hw.sanityLimit.2
  exact { hw with
    stepLimit := step
    sanityLimit := ⟨Nat.le_max_right _ _, Nat.max_le.mpr ⟨sanity, by omega⟩⟩
    urLimit := newOr_of (P := fun v => 100 ≤ v ∧ v ≤ 100000000) (clampNat_bounds _ (by decide)) hw.urLimit
    gain := newOr_of (P := fun v => 2 ≤ v ∧ v ≤ 10) (clampNat_bounds _ (by decide)) hw.gain }

end Range

/-! ## What the row state says (R16, R21, R24, R26) -/

section StateHolds

variable {r r' : Row}

/-- A row that has just been locked, or not (R21). -/
theorem Row.stateHolds_lockedOr (hset : r.rowSet = true) : ({ r with state := r.lockedOr } : Row).StateHolds := by
  unfold Row.lockedOr
  split
  · exact trivial
  · exact ⟨Nat.le_of_not_lt ‹_›, hset⟩

theorem Row.MarkMove.stateHolds {declared : Nat → Prop} (h : Row.MarkMove declared r r') (hr : r.StateHolds) : r'.StateHolds := by
  cases h with
  | same => exact hr
  | loses =>
    by_cases hu : r.urLimit < r.ur <;> simp [Row.StateHolds, hu]
  | slews e u =>
    unfold Row.slewState
    split
    · exact trivial
    · exact Row.stateHolds_lockedOr (r := r.slewWrites e u) rfl
  | steps e size u => exact Row.stateHolds_lockedOr (r := r.stepWrites e size u) rfl

theorem Row.StateHolds.amendWander (h : r.StateHolds) (presence : Nat) (o : RowOperands) :
    (r.amendWander presence o).StateHolds := by
  unfold Row.amendWander
  split
  · dsimp only
    unfold Row.StateHolds at *
    cases hs : r.state <;> simp_all
  · exact h

theorem Row.StateHolds.amended (h : r.StateHolds) (presence : Nat) (o : RowOperands) : (r.amended presence o).StateHolds := by
  have hw := h.amendWander presence o
  unfold Row.amended Row.limitState
  generalize r.amendWander presence o = q at hw ⊢
  dsimp only [Row.amendLimits]
  unfold Row.StateHolds Row.currentUr at *
  cases hs : q.state <;> by_cases hb : presence.testBit 2 <;> simp_all [newOr]
  all_goals split_ifs <;> simp_all

/-- Time keeps what the row state says, since row time does not fall. -/
theorem Row.StateHolds.advance (h : r.StateHolds) (n : Nat) (htop : r.fine ≤ topOfTime) : (r.advance n).StateHolds := by
  have hle := r.whole_le_advance n htop
  unfold Row.StateHolds at *
  show match r.state with
    | .warming => _ | .acquiring => _ | .locked => _ | .holdover | .free => _
  cases hs : r.state <;> simp only [hs] at h ⊢
  · exact h
  · exact h
  · exact ⟨h.1, h.2.trans hle⟩
  · exact ⟨h.1, h.2.trans hle⟩

end StateHolds

/-! ## The obligation -/

theorem State.RowMove.holds {s : State} {c : Instr} {row : Row} (h : s.RowMove c row) (hs : s.RowHolds) :
    row.InRange ∧ row.StateHolds := by
  obtain ⟨range, state, ceilings⟩ := hs
  have declared (u : Nat) (hu : ∃ r, u ≤ (s.ref r).ceiling) : u ≤ 1000000 := by
    obtain ⟨r, hu⟩ := hu
    exact hu.trans (ceilings r)
  cases h with
  | same => exact ⟨range, state⟩
  | reset => constructor <;> constructor <;> decide
  | warmUpEnd h => exact ⟨{ range with s := range.steer_of_memory }, trivial⟩
  | mark _ hm => exact ⟨(hm.mono declared).inRange range, hm.stateHolds state⟩
  | missed _ hm => exact ⟨(hm.mono fun _ => False.elim).inRange range, hm.stateHolds state⟩
  | holdoverToFree h =>
    refine ⟨{ range with }, ?_⟩
    simpa only [Row.StateHolds, h] using state
  | amended presence o => exact ⟨range.amended _ o, state.amended _ o⟩
  | restarted => exact ⟨{ range with s := range.steer_of_memory, ur := le_refl _ }, trivial⟩

/-- Settles O52: time and every move of the row keep its ranges and its state, and no command raises a ceiling beyond its range. -/
theorem rowRecordStaysSound : Obligations.RowRecordStaysSound := by
  intro s t hs h
  refine step_keeps (P := State.RowHolds) ?_ ?_ ?_ hs h
  · intro s t heq hs
    exact ⟨heq.row ▸ hs.range, heq.row ▸ hs.state, fun r => heq.ref r ▸ hs.ceilings r⟩
  · intro s hs
    exact ⟨{ hs.range.advance 1 with }, hs.state.advance 1 hs.range.top, hs.ceilings⟩
  · intro s t c he hs
    obtain ⟨range, state⟩ := he.rowMove.holds hs
    exact ⟨range, state, he.ceilings hs.ceilings⟩

end Sys2Proof.Machine

/-! PROOFS. The soundness of the designations (Chapter 3): replacement, designation, loss and the judgement of marks keep the selected, backup and in-use references sound. -/

namespace Sys2Proof.Machine

/-! ## Qualify counts (R34, R41) -/

theorem RefRecord.CountHolds.qualify {v : RefRecord} (h : v.CountHolds) : v.qualify.CountHolds := by
  unfold RefRecord.qualify
  split
  · exact (by decide : (1 : Nat) ≤ 4)
  · exact (by decide : (1 : Nat) ≤ 4)
  · rename_i hs
    split
    · exact rfl
    · simp only [RefRecord.CountHolds, hs] at h ⊢
      omega
  · exact h

/-- The part of the designations' soundness that holds between the loss of a reference and what replaces it. -/
structure State.SelectorCounts (s : State) : Prop where
  backup : s.selector.backup ≠ some s.selector.selected
  counts : ∀ r, (s.ref r).CountHolds

section Designations

variable {s t : State} {r : Reference}

theorem State.SelectorHolds.weaken (h : s.SelectorHolds) : s.SelectorCounts := ⟨h.backup, h.counts⟩

theorem State.SelectorCounts.of_eq (h : s.SelectorCounts) (e : t.selector = s.selector) : t.SelectorCounts :=
  ⟨e ▸ h.backup, fun r => by rw [State.ref, e]; exact h.counts r⟩

theorem State.SelectorCounts.setRef (h : s.SelectorCounts) {v : RefRecord} (hv : v.CountHolds) : (s.setRef r v).SelectorCounts := by
  refine ⟨by simpa using h.backup, fun k => ?_⟩
  rw [State.ref_setRef]
  split
  · exact hv
  · exact h.counts k

/-- Soundness where a reference is in use. -/
theorem State.SelectorCounts.inUse (h : s.SelectorCounts) (hr : s.selector.inUse = some r) (hw : s.row.state ≠ .warming)
    (hu : s.usable r = true) (hrej : (s.ref r).rejects < 3) : s.SelectorHolds where
  backup := h.backup
  inUse q hq := by
    cases hr.symm.trans hq
    exact ⟨hu, hrej⟩
  warming e := absurd e hw
  designated _ hn := by simp [hr] at hn
  counts := h.counts

/-- Soundness where no reference is in use. -/
theorem State.SelectorCounts.unused (h : s.SelectorCounts) (hn : s.selector.inUse = none)
    (hc : s.row.state ≠ .warming → s.candidate = none) : s.SelectorHolds where
  backup := h.backup
  inUse q hq := by simp [hn] at hq
  warming _ := hn
  designated hw _ := hc hw
  counts := h.counts

theorem State.SelectorHolds.of_eq (h : s.SelectorHolds) (e : t.selector = s.selector)
    (hw : t.row.state = .warming ↔ s.row.state = .warming) : t.SelectorHolds where
  backup := e ▸ h.backup
  inUse q hq := by
    rw [State.usable, State.ref, e]
    exact h.inUse q (e ▸ hq)
  warming ht := e ▸ h.warming (hw.mp ht)
  designated ht hn := (State.candidate_congr e).trans (h.designated (fun hs => ht (hw.mpr hs)) (e ▸ hn))
  counts := (h.weaken.of_eq e).counts

/-! ## Replacement, designation and loss (R45, R46) -/

theorem State.SelectorCounts.putInUse (h : s.SelectorCounts) (hu : s.usable r = true) (hw : s.row.state ≠ .warming) :
    (s.putInUse r).SelectorHolds := by
  have counts : (s.setRef r { s.ref r with rejects := 0 }).SelectorCounts := h.setRef (h.counts r)
  have href : (s.putInUse r).ref r = { s.ref r with rejects := 0 } := by cases r <;> rfl
  refine State.SelectorCounts.inUse (r := r) ⟨counts.backup, fun k => ?_⟩ rfl hw ?_ ?_
  · have := counts.counts k
    cases k <;> exact this
  · rw [State.usable, href]
    exact hu
  · rw [href]
    exact Nat.succ_pos _

theorem State.usable_of_candidate {q : Reference} (h : s.candidate = some q) : s.usable q = true :=
  ((s.candidate_eq_some q).mp h).1

theorem State.SelectorCounts.designate (h : s.SelectorCounts) (hn : s.selector.inUse = none) : s.designate.SelectorHolds := by
  by_cases hw : s.row.state = .warming
  · rw [s.designate_of_busy (.inl hw)]
    exact h.unused hn fun hne => absurd hw hne
  · rw [s.designate_of_free hw hn]
    cases hc : s.candidate with
    | none => exact h.unused hn fun _ => hc
    | some q => exact h.putInUse (State.usable_of_candidate hc) hw

theorem State.loseReference_warming : s.loseReference.row.state = .warming ↔ s.row.state = .warming := by
  by_cases h : s.row.state = .acquiring ∨ s.row.state = .locked
  · rw [s.loseReference_of_following h]
    rcases h with h | h <;> dsimp only <;> split <;> simp [h]
  · rw [not_or] at h
    rw [s.loseReference_of_idle h.1 h.2]

/-- The in-use reference that left Usable is replaced, or lost. -/
theorem State.SelectorCounts.failover (h : s.SelectorCounts) (hw : s.row.state ≠ .warming) : s.failover.SelectorHolds := by
  unfold State.failover
  split
  · exact h.putInUse (State.usable_of_candidate ‹_›) hw
  · rename_i hc
    refine State.SelectorHolds.of_eq (s := { s with selector := { s.selector with inUse := none } }) ?_
      (State.loseReference_selector _) State.loseReference_warming
    exact State.SelectorCounts.unused ⟨h.backup, fun k => by have := h.counts k; cases k <;> exact this⟩ rfl fun _ => hc

/-! ## Writes of one record -/

/-- A record written so that it becomes Usable only if it was, and stays Usable with few rejects where it is in use. -/
theorem State.SelectorHolds.setRef (h : s.SelectorHolds) {v : RefRecord} (hv : v.CountHolds)
    (hu : v.state = .usable → (s.ref r).state = .usable)
    (hin : s.selector.inUse = some r → v.state = .usable ∧ v.rejects < 3) : (s.setRef r v).SelectorHolds := by
  have counts : (s.setRef r v).SelectorCounts := h.weaken.setRef hv
  cases hq : s.selector.inUse with
  | none =>
    refine counts.unused (by simpa using hq) fun hw => ?_
    obtain ⟨hsel, hback⟩ := s.candidate_eq_none.mp (h.designated hw hq)
    have fewer (k : Reference) (hk : s.usable k = false) : (s.setRef r v).usable k = false := by
      rw [State.usable_setRef]
      split
      · rename_i e
        rw [beq_eq_false_iff_ne]
        intro hs
        rw [← e, ← Bool.not_eq_true, s.usable_iff] at hk
        exact hk (hu hs)
      · exact hk
    exact (s.setRef r v).candidate_eq_none.mpr ⟨by simpa using fewer _ hsel, fun k hk => fewer k (hback k (by simpa using hk))⟩
  | some q =>
    have hw : s.row.state ≠ .warming := fun hs => by simp [h.warming hs] at hq
    obtain ⟨hus, hrej⟩ := h.inUse q hq
    by_cases e : r = q
    · subst e
      obtain ⟨hvs, hvr⟩ := hin hq
      exact counts.inUse (by simpa using hq) hw (by simp [State.usable_setRef, hvs]) (by simpa using hvr)
    · exact counts.inUse (by simpa using hq) hw (by simp [State.usable_setRef, e, hus]) (by simpa [State.ref_setRef, e] using hrej)

/-- A write that moves neither the state nor the counts of a record. -/
theorem State.SelectorHolds.setRef_same (h : s.SelectorHolds) {v : RefRecord} (hs : v.state = (s.ref r).state)
    (hq : v.qualifyCount = (s.ref r).qualifyCount) (hr : v.rejects = (s.ref r).rejects) : (s.setRef r v).SelectorHolds := by
  refine h.setRef ?_ (fun e => hs ▸ e) fun hin => ?_
  · have := h.counts r
    simpa only [RefRecord.CountHolds, hs, hq] using this
  · obtain ⟨hu, hrej⟩ := h.inUse r hin
    exact ⟨hs ▸ (s.usable_iff r).mp hu, hr ▸ hrej⟩

/-! ## Marks and their absence (R41, R42, R44) -/

theorem State.SelectorCounts.faultReference (h : s.SelectorCounts) (hin : s.selector.inUse = some r) (hw : s.row.state ≠ .warming) :
    (s.faultReference r).SelectorHolds := by
  rw [s.faultReference_of_inUse hin]
  refine State.SelectorCounts.failover ?_ hw
  exact State.SelectorCounts.of_eq (h.setRef (r := r) (v := { s.ref r with state := .faulted, qualifyCount := 0 }) rfl) rfl

theorem State.SelectorHolds.not_warming (h : s.SelectorHolds) (hin : s.selector.inUse = some r) : s.row.state ≠ .warming :=
  fun hs => by simp [h.warming hs] at hin

theorem State.SelectorHolds.faultReference (h : s.SelectorHolds) : (s.faultReference r).SelectorHolds := by
  by_cases hin : s.selector.inUse = some r
  · exact h.weaken.faultReference hin (h.not_warming hin)
  · rw [s.faultReference_of_unused hin]
    refine State.SelectorHolds.of_eq (h.setRef (r := r) (v := { s.ref r with state := .faulted, qualifyCount := 0 }) rfl ?_ ?_) rfl .rfl
    · exact fun e => nomatch e
    · exact fun e => absurd e hin

theorem State.SelectorHolds.inconsistentMark (h : s.SelectorHolds) : (s.inconsistentMark r).SelectorHolds := by
  dsimp only [State.inconsistentMark]
  split
  · exact h.faultReference
  · rename_i hs
    refine h.setRef (by simp [RefRecord.CountHolds, hs]) (fun e => e) fun hin => ?_
    have hu := (s.usable_iff r).mp (h.inUse r hin).1
    simp [hs] at hu
  all_goals exact h

theorem State.SelectorHolds.missMark (h : s.SelectorHolds) : (s.missMark r).SelectorHolds := by
  dsimp only [State.missMark]
  split
  · rename_i hs
    refine h.setRef rfl (fun e => nomatch e) fun hin => ?_
    have hu := (s.usable_iff r).mp (h.inUse r hin).1
    simp [hs] at hu
  · exact h.faultReference
  all_goals exact h

theorem State.usedMark_warming (e : Int) (u : Nat) (h : s.row.state ≠ .warming) : (s.usedMark e u).row.state ≠ .warming := by
  have moves : s.MarkMoves (fun _ => True) (s.usedMark e u) := s.usedMark_moves e trivial h
  exact fun ht => h (moves.row.permitted.1 ht)

theorem State.SelectorHolds.rejectMark (h : s.SelectorHolds) (hin : s.selector.inUse = some r) : (s.rejectMark r).SelectorHolds := by
  have hw := h.not_warming hin
  have counts : (s.setRef r { s.ref r with rejects := (s.ref r).rejects + 1 }).SelectorCounts := h.weaken.setRef (h.counts r)
  have hin' : (s.setRef r { s.ref r with rejects := (s.ref r).rejects + 1 }).selector.inUse = some r := by simpa using hin
  dsimp only [State.rejectMark]
  split
  · exact counts.faultReference hin' hw
  · have hu := (s.usable_iff r).mp (h.inUse r hin).1
    exact counts.inUse hin' hw (by simp [State.usable_setRef, hu]) (by simp; omega)

theorem State.SelectorHolds.passMark (h : s.SelectorHolds) (hin : s.selector.inUse = some r) (e : Int) (u : Nat) :
    (s.passMark r e u).SelectorHolds := by
  have hw := h.not_warming hin
  have hu := (s.usable_iff r).mp (h.inUse r hin).1
  have passed : (s.choose.setRef r { s.ref r with rejects := 0, lastArrival := s.passedArrival r e }).SelectorHolds := by
    refine State.SelectorHolds.setRef (s := s.choose) (h.of_eq rfl .rfl) (h.counts r) (fun x => x) fun _ => ⟨hu, Nat.succ_pos _⟩
  exact passed.of_eq (State.usedMark_selector _ _ _) ⟨fun ht => absurd ht (State.usedMark_warming e u hw), fun hs => absurd hs hw⟩

/-- A consistent mark of the in-use reference leaves it in use, or faults it at the third rejection. -/
theorem State.SelectorHolds.inUseMark (h : s.SelectorHolds) (hin : s.selector.inUse = some r) (e : Int) (u : Nat) :
    (s.inUseMark r e u).SelectorHolds := by
  have hw := h.not_warming hin
  obtain ⟨hu, hrej⟩ := h.inUse r hin
  have unmarked : ({ s with selector := { s.selector with firstMark := false } } : State).SelectorHolds :=
    State.SelectorCounts.inUse ⟨h.backup, fun k => by have := h.counts k; cases k <;> exact this⟩ hin hw
      (by cases r <;> exact hu) (by cases r <;> exact hrej)
  refine iteInduction (motive := State.SelectorHolds) (fun _ => unmarked)
    fun _ => iteInduction (motive := State.SelectorHolds) (fun _ => ?_) fun _ => ?_
  · exact unmarked.rejectMark hin
  · exact unmarked.passMark hin e u

theorem State.SelectorHolds.judgeMark (h : s.SelectorHolds) (m : Mark) (c : Bool) : (s.judgeMark r m c).SelectorHolds := by
  unfold State.judgeMark
  split
  · dsimp only [State.consistentMark]
    have counts : (s.setRef r ((s.ref r).record m true).qualify).SelectorCounts :=
      h.weaken.setRef (RefRecord.CountHolds.qualify (h.counts r))
    split
    · rename_i hin
      have hs := (s.usable_iff r).mp (h.inUse r hin).1
      have hq : ((s.ref r).record m true).qualify = (s.ref r).record m true := by simp [RefRecord.qualify, RefRecord.record, hs]
      rw [hq]
      have recorded := h.setRef_same (r := r) (v := (s.ref r).record m true) rfl rfl rfl
      exact recorded.inUseMark (by simpa using hin) _ _
    · rename_i hin
      cases hq : s.selector.inUse with
      | none => exact counts.designate (by simpa using hq)
      | some q =>
        have hne : r ≠ q := fun e => hin (e ▸ hq)
        have hu := h.inUse q hq
        rw [State.designate_of_busy _ (.inr (by simp [hq]))]
        exact counts.inUse (r := q) (by simpa using hq) (h.not_warming hq) (by simp [State.usable_setRef, hne, hu.1])
          (by simpa [State.ref_setRef, hne] using hu.2)
  · exact State.SelectorHolds.inconsistentMark (h.setRef_same rfl rfl rfl)

theorem State.SelectorHolds.linkMark (h : s.SelectorHolds) (a : Nat) (m : Option MarkFields) : (s.linkMark r a m).SelectorHolds := by
  unfold State.linkMark
  split
  · exact h.inconsistentMark
  · exact h.judgeMark _ _

/-! ## Requests (R36, R47, R48) -/

theorem State.SelectorHolds.selectReference (h : s.SelectorHolds) (hw : s.row.state ≠ .warming) (hu : s.usable r = true) :
    (s.selectReference r).SelectorHolds := by
  have backup : (s.selector.select r).backup ≠ some (s.selector.select r).selected := by
    simp only [Selector.select]
    split
    · rename_i hb
      intro e
      exact h.backup (hb.trans e.symm)
    · exact ‹_›
  have counts : ({ s with selector := s.selector.select r } : State).SelectorCounts :=
    ⟨backup, fun k => by have := h.counts k; cases k <;> exact this⟩
  have hu' : ({ s with selector := s.selector.select r } : State).usable r = true := by cases r <;> exact hu
  dsimp only [State.selectReference]
  split
  · rename_i hin
    exact counts.inUse hin hw hu' (by have := (h.inUse r hin).2; cases r <;> exact this)
  · exact counts.putInUse hu' hw

theorem State.SelectorHolds.setBackup (h : s.SelectorHolds) (n : Option Reference) (hn : n ≠ some s.selector.selected) :
    ({ s with selector := { s.selector with backup := n } } : State).designateBackup.SelectorHolds := by
  have counts : ({ s with selector := { s.selector with backup := n } } : State).SelectorCounts :=
    ⟨hn, fun k => by have := h.counts k; cases k <;> exact this⟩
  cases hq : s.selector.inUse with
  | some q =>
    have busy : ({ s with selector := { s.selector with backup := n } } : State).designateBackup =
        { s with selector := { s.selector with backup := n } } := by
      unfold State.designateBackup
      rw [State.designate_of_busy _ (.inr (by simp [hq])), ite_self]
    obtain ⟨hu, hrej⟩ := h.inUse q hq
    rw [busy]
    exact counts.inUse hq (h.not_warming hq) (by cases q <;> exact hu) (by cases q <;> exact hrej)
  | none =>
    unfold State.designateBackup
    split
    · rename_i hsel
      refine counts.unused hq fun hw => ?_
      have := (s.candidate_eq_none.mp (h.designated hw hq)).1
      have hsel' : s.usable s.selector.selected = true := by
        have e (k : Reference) : ({ s with selector := { s.selector with backup := n } } : State).usable k = s.usable k := by
          cases k <;> rfl
        exact (e _) ▸ hsel
      simp [hsel'] at this
    · exact counts.designate hq

theorem State.reset_selectorHolds : State.reset.SelectorHolds where
  backup := by decide
  inUse _ h := nomatch h
  warming _ := rfl
  designated h := absurd rfl h
  counts r := by cases r <;> exact rfl

/-! ## The obligation -/

theorem Effect.selectorHolds {c : Instr} (h : Effect s c t) (hs : s.SelectorHolds) : t.SelectorHolds := by
  cases h with
  | reset => exact State.reset_selectorHolds.of_eq rfl .rfl
  | delimiter => exact hs.setRef_same rfl rfl rfl
  | linkMark l received a =>
    have taken := hs.setRef_same (r := linkReference l) (v := { s.ref (linkReference l) with arriving := none }) rfl rfl rfl
    exact taken.linkMark _ _
  | pulseMark => exact State.SelectorHolds.judgeMark (s := s.choose) (hs.of_eq rfl .rfl) _ _
  | missMark r => exact hs.missMark
  | warmUpEnd h =>
    exact State.SelectorCounts.designate (hs.weaken.of_eq rfl) (hs.warming (warmUpDue_warming h))
  | amendReference b comp ceil fixed r =>
    exact (hs.setRef_same (r := r) (v := (s.ref r).amend (r == .pulse) comp ceil fixed) rfl rfl rfl).of_eq rfl .rfl
  | select b r hw hu => exact (hs.selectReference hw hu).of_eq rfl .rfl
  | setBackup b n hn => exact (hs.setBackup n hn).of_eq rfl .rfl
  | holdoverToFree h =>
    refine hs.of_eq rfl ⟨fun e => ?_, fun e => ?_⟩
    · exact nomatch e
    · simp [freeDue_holdover h] at e
  | amendRow presence o =>
    refine hs.of_eq (by simp) ?_
    rw [State.answer_row, State.amendRow_row]
    rcases s.row.amended_state presence.toNat o with e | ⟨e, e'⟩ | ⟨e, e'⟩
    · rw [e]
    · simp [e, e']
    · simp [e, e']
  | restartRow h =>
    refine hs.of_eq (by simp) ?_
    rw [State.answer_row, State.restartRow_row]
    simp [h]
  | _ => exact hs.of_eq (by simp) (by simp)

end Designations

/-- Settles O53: every write of a reference record and every designation keeps the designations sound. -/
theorem designationsStaySound : Obligations.DesignationsStaySound := by
  intro s t hs h
  refine step_keeps (P := State.SelectorHolds) ?_ ?_ ?_ hs h
  · intro s t heq hs
    exact hs.of_eq heq.selector (by rw [heq.row])
  · intro s hs
    exact hs.of_eq rfl .rfl
  · intro s t c he hs
    exact he.selectorHolds hs

end Sys2Proof.Machine

/-! PROOFS. What the deliveries to every record and every rack come to: the age test, the evaluation of the racks, the crossing of the ports and the drift restart, each as one equation for one record. -/

namespace Sys2Proof.Machine

/-! ## Folds that write one entry at a time -/

/-- A fold each step of which rewrites the entry it names, by a function of a quantity that no step changes, rewrites every entry named. -/
theorem foldl_pointwise {α β γ : Type} [DecidableEq α] {op : State → α → State} {g : State → α → β} {ctx : State → γ} {new : γ → α → β → β}
    (hctx : ∀ t a, ctx (op t a) = ctx t) (hop : ∀ t a b, g (op t a) b = if a = b then new (ctx t) b (g t b) else g t b)
    {l : List α} (hl : l.Nodup) (s : State) (b : α) :
    g (l.foldl op s) b = if b ∈ l then new (ctx s) b (g s b) else g s b := by
  induction l generalizing s with
  | nil => simp
  | cons a l ih =>
    obtain ⟨hal, hl'⟩ := List.nodup_cons.mp hl
    rw [List.foldl_cons, ih hl', hop, hctx]
    by_cases e : a = b
    · subst e
      simp [hal]
    · simp [e, Ne.symm e]

theorem allRacks_nodup : allRacks.Nodup := by decide

theorem mem_allRacks (p : RackId) : p ∈ allRacks := by revert p; decide

/-! ## The age test (R67) -/

/-- A record after the age test. -/
def Follower.aged (f : Follower) (now : Nat) : Follower :=
  if f.staleByAge now then { f with state := .stale, noticed := f.noticed || f.notify.onStale } else f

section

variable (s : State)

theorem State.follower_ageTestOne (i j : FollowerId) :
    (s.ageTestOne i).follower j = if i = j then (s.follower j).aged s.now else s.follower j := by
  unfold State.ageTestOne Follower.aged
  by_cases e : i = j
  · subst e
    split <;> simp
  · split <;> simp [e, State.follower_goStale_ne]

theorem State.follower_ageTest (i : FollowerId) : s.ageTest.follower i = (s.follower i).aged s.now := by
  have h := foldl_pointwise (op := State.ageTestOne) (g := State.follower) (ctx := State.now) (new := fun now _ f => f.aged now)
    (fun t a => congrArg Row.whole (t.ageTestOne_row a)) State.follower_ageTestOne (List.nodup_finRange 256) s i
  simpa [State.ageTest, allFollowers] using h

/-! ## The delivery of a boundary (R150) -/

/-- A rack after its evaluation, its members being given. -/
def Rack.evaluated (r : Rack) (members : List Follower) : Rack :=
  if r.port.state = .disabled then r else { r with drift := r.drift.persistenceTaken.calmTaken.evaluate members }

theorem State.rack_evaluateRack_pointwise (p k : RackId) :
    (s.evaluateRack p).rack k = if p = k then (s.rack k).evaluated (s.members k) else s.rack k := by
  rw [State.rack_evaluateRack]
  unfold Rack.evaluated State.port
  by_cases e : p = k
  · subst e
    by_cases h : (s.rack p).port.state = .disabled <;> simp [h]
  · simp [e]

theorem State.rack_deliverBoundary (p : RackId) :
    s.deliverBoundary.rack p = (s.rack p).evaluated (s.ageTest.members p) := by
  have h := foldl_pointwise (op := State.evaluateRack) (g := State.rack) (ctx := State.members) (new := fun m k r => r.evaluated (m k))
    (fun t a => funext fun k => State.members_congr (t.evaluateRack_followers a) k) State.rack_evaluateRack_pointwise
    allRacks_nodup s.ageTest p
  have e : s.ageTest.rack p = s.rack p := congrArg (fun v : Vector Rack 12 => v[p]) s.ageTest_racks
  simpa [State.deliverBoundary, mem_allRacks, e] using h

@[simp] theorem State.deliverBoundary_followers : s.deliverBoundary.followers = s.ageTest.followers :=
  foldl_keeps State.evaluateRack State.followers State.evaluateRack_followers allRacks s.ageTest

theorem State.follower_deliverBoundary (i : FollowerId) : s.deliverBoundary.follower i = (s.follower i).aged s.now := by
  rw [← State.follower_ageTest, State.follower, State.deliverBoundary_followers]
  rfl

/-! ## The drift restart (R156) -/

/-- The drift fields after RESTART-ROW. -/
def Drift.restarted (d : Drift) : Drift :=
  { d.persistenceTaken.calmTaken.reloadCounters with warning := .none, acknowledged := false }

theorem State.rack_driftRestart (p k : RackId) :
    (s.driftRestart p).rack k = if p = k then { s.rack k with drift := (s.rack k).drift.restarted } else s.rack k := by
  have h : (s.driftRestart p).rack k =
      ((s.takeExpiries p).setDrift p { ((s.takeExpiries p).rack p).drift.reloadCounters with warning := .none, acknowledged := false }).rack k := by
    unfold State.driftRestart
    dsimp only
    split <;> rfl
  rw [h, State.rack_setDrift, State.rack_takeExpiries, State.rack_takeExpiries]
  by_cases e : p = k
  · subst e
    simp [Drift.restarted]
  · simp [e]

theorem State.rack_driftRestarts (p : RackId) :
    (allRacks.foldl State.driftRestart s).rack p = { s.rack p with drift := (s.rack p).drift.restarted } := by
  have h := foldl_pointwise (op := State.driftRestart) (g := State.rack) (ctx := fun _ => ())
    (new := fun _ _ r => { r with drift := r.drift.restarted }) (fun _ _ => rfl) State.rack_driftRestart allRacks_nodup s p
  simpa [mem_allRacks] using h

/-! ## Crossing (R96, R61) -/

/-- A rack whose port has had its exchange crossed. -/
def Rack.crossed (r : Rack) (elapsed : Nat) : Rack :=
  if r.port.exchange.isSome then { r with port := { r.port.rest .quiet with quietEnd := some (elapsed + r.port.window) } } else r

theorem State.rack_eq_of_port {t : State} {p : RackId} {r : Rack} (h : { t.rack p with port := r.port } = r) (hp : t.port p = r.port) :
    t.rack p = r := by
  rw [← h, ← hp]
  rfl

/-- Ending an exchange writes the port alone of the rack. -/
theorem State.endExchange_rack (p k : RackId) (a : Activity) :
    { (s.endExchange p a).rack k with port := (s.rack k).port } = s.rack k := by
  unfold State.endExchange
  split
  · rfl
  · dsimp only
    split
    · have e (i : FollowerId) : ((s.setPort p ((s.port p).rest a)).vacate i).rack k = (s.setPort p ((s.port p).rest a)).rack k :=
        congrArg (fun v : Vector Rack 12 => v[k]) (State.vacate_racks _ i)
      rw [e, State.rack_setPort]
      split <;> rfl
    · rw [State.rack_setPort]
      split <;> rfl

theorem State.rack_crossPort (p k : RackId) :
    (s.crossPort p).rack k = if p = k then (s.rack k).crossed s.elapsed else s.rack k := by
  have frame : { (s.crossPort p).rack k with port := (s.rack k).port } = s.rack k := by
    unfold State.crossPort
    split
    · rfl
    · dsimp only
      rw [State.rack_setPort]
      split <;> exact s.endExchange_rack p k .quiet
  have port := s.port_crossPort p k
  refine State.rack_eq_of_port ?_ ?_
  · by_cases e : p = k
    · subst e
      unfold Rack.crossed
      rw [if_pos rfl]
      split
      · exact congrArg (fun r : Rack => { r with port := { (s.rack p).port.rest .quiet with
          quietEnd := some (s.elapsed + (s.rack p).port.window) } }) frame
      · exact frame
    · rw [if_neg e]
      exact frame
  · rw [port]
    by_cases e : p = k
    · subst e
      unfold Rack.crossed
      simp only [true_and, if_true]
      split <;> rename_i h
      · rw [if_pos (show (s.rack p).port.exchange.isSome = true from h)]; rfl
      · rw [if_neg (show ¬ (s.rack p).port.exchange.isSome = true from h)]; rfl
    · rw [if_neg (fun h => e h.1), if_neg e]
      rfl

theorem State.rack_crossAll (p : RackId) : s.crossAll.rack p = ((s.rack p).crossed s.elapsed).setAnnounce := by
  have h := foldl_pointwise (op := State.crossPort) (g := State.rack) (ctx := State.elapsed) (new := fun now _ r => r.crossed now)
    State.crossPort_elapsed State.rack_crossPort allRacks_nodup s p
  simp only [mem_allRacks, if_true] at h
  rw [← h]
  simp [State.crossAll, State.rack]

/-- An exchange in flight on one of the ports addresses the record. -/
def State.addressedOn (s : State) (l : List RackId) (i : FollowerId) : Bool :=
  l.any fun p => (s.port p).exchange.any fun x => x.follower == i

/-- The record is Retiring and an exchange of one of the ports addresses it: crossing those ports makes it Vacant. -/
def State.goneBy (s : State) (l : List RackId) (i : FollowerId) : Bool := (s.follower i).state == .retiring && s.addressedOn l i

/-- A Retiring record that became Vacant with its order cancelled (R61, R63). -/
def Follower.retired (f : Follower) : Follower := (f.ended .cancelled).vacated

theorem State.endExchange_follower (p : RackId) (a : Activity) (i : FollowerId) :
    (s.endExchange p a).follower i = if s.goneBy [p] i then (s.follower i).retired else s.follower i := by
  cases h : (s.port p).exchange with
  | none => simp [State.endExchange_of_none _ a h, State.goneBy, State.addressedOn, h]
  | some x =>
    rw [State.follower_endExchange _ a h]
    have e : s.goneBy [p] i = true ↔ i = x.follower ∧ (s.follower i).state = .retiring := by
      simp only [State.goneBy, State.addressedOn, h, List.any_cons, List.any_nil, Bool.or_false, Option.any_some, Bool.and_eq_true,
        beq_iff_eq]
      exact ⟨fun ⟨hr, hi⟩ => ⟨hi.symm, hr⟩, fun ⟨hi, hr⟩ => ⟨hr, hi.symm⟩⟩
    simp only [e]
    rfl

theorem State.endExchange_fences (p : RackId) (a : Activity) :
    (s.endExchange p a).fences = { s.fences with list := s.fences.list.filter fun f => !s.goneBy [p] f.follower } := by
  cases h : (s.port p).exchange with
  | none =>
    rw [State.endExchange_of_none _ a h]
    simp [State.goneBy, State.addressedOn, h]
  | some x =>
    have gone (i : FollowerId) : s.goneBy [p] i = ((s.follower i).state == .retiring && x.follower == i) := by
      simp [State.goneBy, State.addressedOn, h]
    simp only [gone]
    unfold State.endExchange
    rw [h]
    dsimp only
    split
    · rename_i hr
      rw [State.vacate_fences]
      refine congrArg (fun l => ({ s.fences with list := l } : FenceList)) (List.filter_congr fun f _ => ?_)
      by_cases e : f.follower = x.follower
      · have hr' : (s.follower x.follower).state = .retiring := hr
        simp [e, hr']
      · have e' : (x.follower == f.follower) = false := beq_eq_false_iff_ne.mpr (Ne.symm e)
        rw [e', Bool.and_false]
        exact bne_iff_ne.mpr e
    · rename_i hr
      have keep (f : Fence) : (!((s.follower f.follower).state == .retiring && x.follower == f.follower)) = true := by
        by_cases e : x.follower = f.follower
        · have hr' : (s.follower f.follower).state ≠ .retiring := e ▸ hr
          simp [hr']
        · simp [e]
      simp [keep]

@[simp] theorem State.crossPort_follower (p : RackId) (i : FollowerId) :
    (s.crossPort p).follower i = (s.endExchange p .quiet).follower i := by
  unfold State.crossPort
  split
  · rw [State.endExchange_of_none _ _ ‹_›]
  · rfl

@[simp] theorem State.crossPort_fences (p : RackId) : (s.crossPort p).fences = (s.endExchange p .quiet).fences := by
  unfold State.crossPort
  split
  · rw [State.endExchange_of_none _ _ ‹_›]
  · rfl

theorem State.port_crossPort_ne {p k : RackId} (h : p ≠ k) : (s.crossPort p).port k = s.port k := by
  rw [State.port_crossPort, if_neg fun e => h e.1]

theorem State.addressedOn_crossPort {p : RackId} {l : List RackId} (hp : p ∉ l) (i : FollowerId) :
    (s.crossPort p).addressedOn l i = s.addressedOn l i := by
  unfold State.addressedOn
  rw [Bool.eq_iff_iff]
  simp only [List.any_eq_true]
  refine exists_congr fun k => and_congr_right fun hk => ?_
  rw [State.port_crossPort_ne s (fun e : p = k => hp (by rw [e]; exact hk))]

theorem Follower.retired_state (f : Follower) : f.retired.state = .vacant := rfl

theorem State.crossPort_gone {p : RackId} {l : List RackId} (hp : p ∉ l) (i : FollowerId) :
    (s.crossPort p).goneBy l i = (!s.goneBy [p] i && s.goneBy l i) := by
  have hf := (s.crossPort_follower p i).trans (s.endExchange_follower p .quiet i)
  have ha := s.addressedOn_crossPort hp i
  unfold State.goneBy at hf ⊢
  rw [hf, ha]
  by_cases h : ((s.follower i).state == .retiring && s.addressedOn [p] i) = true
  · simp [h, Follower.retired_state]
  · simp [h]

theorem State.goneBy_cons (p : RackId) (l : List RackId) (i : FollowerId) :
    s.goneBy (p :: l) i = (s.goneBy [p] i || s.goneBy l i) := by
  simp only [State.goneBy, State.addressedOn, List.any_cons, List.any_nil, Bool.or_false, Bool.and_or_distrib_left]

theorem State.follower_crossPorts {l : List RackId} (hl : l.Nodup) (i : FollowerId) :
    (l.foldl State.crossPort s).follower i = if s.goneBy l i then (s.follower i).retired else s.follower i := by
  induction l generalizing s with
  | nil => simp [State.goneBy, State.addressedOn]
  | cons p l ih =>
    obtain ⟨hp, hl'⟩ := List.nodup_cons.mp hl
    rw [List.foldl_cons, ih _ hl', State.crossPort_gone _ hp, State.crossPort_follower, State.endExchange_follower, s.goneBy_cons p l i]
    cases s.goneBy [p] i <;> cases s.goneBy l i <;> rfl

theorem State.fences_crossPorts {l : List RackId} (hl : l.Nodup) :
    (l.foldl State.crossPort s).fences = { s.fences with list := s.fences.list.filter fun f => !s.goneBy l f.follower } := by
  induction l generalizing s with
  | nil => simp [State.goneBy, State.addressedOn]
  | cons p l ih =>
    obtain ⟨hp, hl'⟩ := List.nodup_cons.mp hl
    rw [List.foldl_cons, ih _ hl', State.crossPort_fences, State.endExchange_fences]
    simp only [List.filter_filter]
    refine congrArg (fun l => ({ s.fences with list := l } : FenceList)) (List.filter_congr fun f _ => ?_)
    rw [State.crossPort_gone _ hp, s.goneBy_cons p l]
    cases s.goneBy [p] f.follower <;> cases s.goneBy l f.follower <;> rfl

theorem State.follower_crossAll (i : FollowerId) :
    s.crossAll.follower i = if s.goneBy allRacks i then (s.follower i).retired else s.follower i := by
  rw [← s.follower_crossPorts allRacks_nodup i]
  unfold State.crossAll
  generalize allRacks.foldl State.crossPort s = t
  rfl

theorem State.fences_crossAll :
    s.crossAll.fences = { s.fences with list := s.fences.list.filter fun f => !s.goneBy allRacks f.follower } := by
  rw [← s.fences_crossPorts allRacks_nodup]
  unfold State.crossAll
  generalize allRacks.foldl State.crossPort s = t
  rfl

end

end Sys2Proof.Machine

/-! PROOFS. What each shared operation makes of one follower record (Chapters 4, 6 and 7), as one equation for the record it names, and what no such change touches. -/

namespace Sys2Proof.Machine

/-! ## Changes that keep a record enrolled -/

/-- The record does not become Trusted, and its settle count stays where it stays Trusted. -/
def Follower.TrustKept (f g : Follower) : Prop := g.state = .trusted → f.state = .trusted ∧ g.settleCount = f.settleCount

theorem Follower.TrustKept.same {f g : Follower} (hs : g.state = f.state := by exact rfl)
    (hc : g.settleCount = f.settleCount := by exact rfl) : f.TrustKept g := fun h => ⟨hs ▸ h, hc⟩

/-- The record stays where it is enrolled, with its estimates, it becomes neither Vacant, Retiring nor Trusted, and it stays sound. -/
structure Follower.Keeps (f g : Follower) : Prop where
  port : g.port = f.port
  slot : g.slot = f.slot
  slotA : g.slotA = f.slotA
  slotB : g.slotB = f.slotB
  selector : g.selector = f.selector
  vacant : g.state = .vacant ↔ f.state = .vacant
  retiring : g.state = .retiring ↔ f.state = .retiring
  trusted : f.TrustKept g
  sound : f.Sound → g.Sound

/-- The record is Vacant and holds nothing. -/
structure Follower.Cleared (g : Follower) : Prop where
  state : g.state = .vacant
  slotA : g.slotA = .empty
  slotB : g.slotB = .empty
  sound : g.Sound

section Keeps

variable {f g h : Follower}

theorem Follower.Keeps.refl (f : Follower) : f.Keeps f := ⟨rfl, rfl, rfl, rfl, rfl, .rfl, .rfl, .same, id⟩

theorem Follower.Keeps.trans (a : f.Keeps g) (b : g.Keeps h) : f.Keeps h := by
  refine ⟨b.port.trans a.port, b.slot.trans a.slot, b.slotA.trans a.slotA, b.slotB.trans a.slotB, b.selector.trans a.selector,
    b.vacant.trans a.vacant, b.retiring.trans a.retiring, fun h => ?_, b.sound ∘ a.sound⟩
  obtain ⟨hb, hbc⟩ := b.trusted h
  obtain ⟨ha, hac⟩ := a.trusted hb
  exact ⟨ha, hbc.trans hac⟩

theorem Follower.Keeps.ite {d : Prop} [Decidable d] (a : d → f.Keeps g) (b : ¬ d → f.Keeps h) : f.Keeps (if d then g else h) := by
  split
  · exact a ‹_›
  · exact b ‹_›

variable (f)

/-! ## Orders (R119, R121) -/

theorem Follower.keeps_ended (how : OrderEnd) : f.Keeps (f.ended how) := by
  unfold Follower.ended
  split
  · exact .refl f
  · exact ⟨rfl, rfl, rfl, rfl, rfl, .rfl, .rfl, .same, fun h => { h with
      attempts := nofun, step := nofun, vacant := fun _ => rfl }⟩

theorem Follower.keeps_attempted : f.Keeps f.attempted := by
  unfold Follower.attempted
  split
  · exact .refl f
  · rename_i o ho
    refine .ite (fun _ => f.keeps_ended .lost) fun hlt => ?_
    refine ⟨rfl, rfl, rfl, rfl, rfl, .rfl, .rfl, .same, fun h => { h with attempts := ?_, step := ?_, vacant := ?_ }⟩
    · rintro _ ⟨⟩
      exact Nat.le_of_lt_succ (Nat.lt_of_not_le hlt)
    · rintro _ ⟨⟩
      exact h.step o ho
    · intro hv
      simp [h.vacant hv] at ho

/-! ## Faults and age (R66, R67) -/

/-- A record after a counted fault of this kind (R66). -/
def Follower.faulted (f : Follower) (limit : Nat) (k : FaultKind) : Follower :=
  let f := f.countFault k
  if (f.state = .settling ∨ f.state = .trusted) ∧ limit ≤ f.consecutiveFaults then
    { f with state := .stale, noticed := f.noticed || f.notify.onStale } else f

theorem Follower.keeps_countFault (k : FaultKind) : f.Keeps (f.countFault k) :=
  ⟨rfl, rfl, rfl, rfl, rfl, .rfl, .rfl, .same, fun h => { h with faults := Nat.min_le_left _ _ }⟩

theorem Follower.keeps_stale (h : f.state = .settling ∨ f.state = .trusted) (b : Bool) :
    f.Keeps { f with state := .stale, noticed := b } := by
  refine ⟨rfl, rfl, rfl, rfl, rfl, ?_, ?_, nofun, fun h => { h with trusted := nofun, settling := nofun, vacant := nofun }⟩
  all_goals rcases h with h | h <;> simp [h]

theorem Follower.keeps_faulted (limit : Nat) (k : FaultKind) : f.Keeps (f.faulted limit k) :=
  .ite (fun h => (f.keeps_countFault k).trans (Follower.keeps_stale _ h.1 _)) fun _ => f.keeps_countFault k

theorem Follower.keeps_aged (now : Nat) : f.Keeps (f.aged now) := by
  refine .ite (fun h => f.keeps_stale ?_ _) fun _ => .refl f
  simp only [Follower.staleByAge, Bool.and_eq_true, Bool.or_eq_true, beq_iff_eq] at h
  exact h.1

/-! ## Epochs and settling (R65, R68, R69) -/

theorem Follower.keeps_epoch (now : Nat) : f.Keeps (f.epoch now) :=
  ⟨rfl, rfl, rfl, rfl, rfl, .rfl, .rfl, .same, fun h => { h with rateBase := nofun }⟩

theorem Follower.keeps_resettle (hv : f.state ≠ .vacant) (hr : f.state ≠ .retiring) : f.Keeps f.resettle :=
  ⟨rfl, rfl, rfl, rfl, rfl, by simp [Follower.resettle, hv], by simp [Follower.resettle, hr], nofun,
    fun h => { h with trusted := nofun, settling := fun _ => ⟨h.reload.1, le_refl _⟩, vacant := nofun }⟩

theorem FollowerState.active_enrolled {t : FollowerState} (h : t.active = true) : t ≠ .vacant ∧ t ≠ .retiring := by
  cases t <;> simp_all [FollowerState.active]

theorem FollowerState.leaving_of {t : FollowerState} (ha : ¬ t.active = true) (hm : t ≠ .muted) : t = .vacant ∨ t = .retiring := by
  cases t <;> simp_all [FollowerState.active]

theorem Follower.keeps_epoch_resettle (h : f.state.active = true) (now : Nat) : f.Keeps (f.epoch now).resettle :=
  (f.keeps_epoch now).trans
    (Follower.keeps_resettle _ (FollowerState.active_enrolled h).1 (FollowerState.active_enrolled h).2)

theorem Follower.keeps_rowEpoch (now : Nat) : f.Keeps (f.rowEpoch now) := by
  unfold Follower.rowEpoch
  split
  · exact .refl f
  all_goals first
    | exact f.keeps_epoch now
    | exact f.keeps_epoch_resettle (by simp [FollowerState.active, *]) now

/-! ## Acknowledgements and the holding report (R116, R117) -/

/-- A record after a taken acknowledgement (R116 to R118). -/
def Follower.acked (f : Follower) (k : OrderKind) (r : AckResult) (now : Nat) : Follower :=
  match r with
  | .done => (f.acknowledgeDone k now).ended .done
  | .refused => f.ended .refused

/-- A record after the holding report of a Reply (R116). -/
def Follower.reported (f : Follower) (flag : Bool) : Follower :=
  if f.holding = flag then f
  else
    let g := { f with holding := flag }
    if flag ∧ f.pendingOrder.map (·.kind) = some .step then g.ended .cancelled else g

/-- A record after stage 3 (R116 to R119). -/
def Follower.ordered (f : Follower) (carried : Option OrderKind) (r : Reply) (now : Nat) : Follower :=
  match r.ack with
  | some (k, result) =>
    if carried = some k then f.acked k result now else (if carried.isSome then f.attempted else f).reported r.holding
  | none => (if carried.isSome then f.attempted else f).reported r.holding

/-- Agent holding written and the pending order ended. -/
theorem Follower.keeps_holding_ended (b : Bool) (how : OrderEnd) : f.Keeps ({ f with holding := b }.ended how) := by
  unfold Follower.ended
  split
  · rename_i hn
    have hn' : f.pendingOrder = none := hn
    exact ⟨rfl, rfl, rfl, rfl, rfl, .rfl, .rfl, .same, fun h => { h with step := fun o ho => by simp [hn'] at ho }⟩
  · exact ⟨rfl, rfl, rfl, rfl, rfl, .rfl, .rfl, .same, fun h => { h with attempts := nofun, step := nofun, vacant := fun _ => rfl }⟩

theorem Follower.keeps_acknowledgeDone_ended (k : OrderKind) (now : Nat) (how : OrderEnd) :
    f.Keeps ((f.acknowledgeDone k now).ended how) := by
  have settled : f.Keeps (if f.state.active then (f.epoch now).resettle else f.epoch now) :=
    .ite (fun h => f.keeps_epoch_resettle h now) fun _ => f.keeps_epoch now
  cases k with
  | step => exact settled.trans (Follower.keeps_ended _ how)
  | hold => exact f.keeps_holding_ended true how
  | resume => exact f.keeps_holding_ended false how
  | resetAgent => exact settled.trans (Follower.keeps_holding_ended _ false how)

theorem Follower.keeps_acked (k : OrderKind) (r : AckResult) (now : Nat) : f.Keeps (f.acked k r now) := by
  cases r with
  | done => exact f.keeps_acknowledgeDone_ended k now .done
  | refused => exact f.keeps_ended .refused

theorem Follower.keeps_reported (flag : Bool) : f.Keeps (f.reported flag) := by
  refine .ite (fun _ => .refl f) fun _ => .ite (fun _ => f.keeps_holding_ended flag .cancelled) fun hno => ?_
  refine ⟨rfl, rfl, rfl, rfl, rfl, .rfl, .rfl, .same, fun h => { h with step := fun o ho hk => ⟨(h.step o ho hk).1, ?_⟩ }⟩
  have ho' : f.pendingOrder = some o := ho
  simpa [ho', hk] using hno

theorem Follower.keeps_ordered (carried : Option OrderKind) (r : Reply) (now : Nat) : f.Keeps (f.ordered carried r now) := by
  have attempted : f.Keeps ((if carried.isSome then f.attempted else f).reported r.holding) :=
    Follower.Keeps.trans (.ite (fun _ => f.keeps_attempted) fun _ => .refl f) (Follower.keeps_reported _ _)
  unfold Follower.ordered
  split
  · exact .ite (fun _ => f.keeps_acked _ _ now) fun _ => attempted
  · exact attempted

/-! ## Settling by a good exchange (R64, R65) -/

/-- A record after stage 2; `beyond` says that the new offset exceeds the trust offset, `following` that the row is Locked or in Holdover. -/
def Follower.settled (f : Follower) (beyond following : Bool) (t4 : Nat) : Follower :=
  let g := f.goodExchange t4
  match g.state with
  | .stale => g.resettle
  | .settling =>
    if beyond then g.resettle
    else if following then
      if g.settleCount ≤ 1 then { g with state := .trusted, settleCount := 0, noticed := g.noticed || g.notify.onTrusted }
      else { g with settleCount := g.settleCount - 1 }
    else g
  | .trusted => if beyond then g.resettle else g
  | .vacant | .muted | .retiring => f

theorem Follower.keeps_goodExchange (t4 : Nat) : f.Keeps (f.goodExchange t4) :=
  ⟨rfl, rfl, rfl, rfl, rfl, .rfl, .rfl, .same, fun h => { h with faults := Nat.zero_le _ }⟩

/-- Stage 2 keeps the record, unless it is the one good exchange still needed that makes a Settling record Trusted. -/
theorem Follower.keeps_settled (beyond following : Bool) (t4 : Nat) :
    f.Keeps (f.settled beyond following t4) ∨
      (f.state = .settling ∧ f.settleCount ≤ 1 ∧ following = true ∧ beyond = false ∧
        f.settled beyond following t4 = { f.goodExchange t4 with
          state := .trusted, settleCount := 0, noticed := f.noticed || f.notify.onTrusted }) := by
  have good := f.keeps_goodExchange t4
  have resettled (hv : f.state ≠ .vacant) (hr : f.state ≠ .retiring) : f.Keeps (f.goodExchange t4).resettle :=
    good.trans (Follower.keeps_resettle _ hv hr)
  have e : (f.goodExchange t4).state = f.state := rfl
  unfold Follower.settled
  simp only [e]
  cases hs : f.state with
  | stale => exact .inl (resettled (by simp [hs]) (by simp [hs]))
  | trusted => exact .inl (.ite (fun _ => resettled (by simp [hs]) (by simp [hs])) fun _ => good)
  | settling =>
    cases beyond with
    | true => exact .inl (resettled (by simp [hs]) (by simp [hs]))
    | false =>
      cases following with
      | false => exact .inl good
      | true =>
        by_cases hc : (f.goodExchange t4).settleCount ≤ 1
        · exact .inr ⟨rfl, hc, rfl, rfl, by simp only [hc, if_true]; rfl⟩
        · left
          simp only [Bool.false_eq_true, if_false, if_true, if_neg hc]
          refine good.trans ⟨rfl, rfl, rfl, rfl, rfl, by simp [e, hs], by simp [e, hs], nofun,
            fun h => { h with trusted := nofun, settling := fun _ => ?_, vacant := nofun }⟩
          obtain ⟨-, hle⟩ := h.settling (e.trans hs)
          exact ⟨Nat.le_sub_one_of_lt (Nat.lt_of_not_le hc), (Nat.sub_le _ _).trans hle⟩
  | vacant => exact .inl (.refl f)
  | muted => exact .inl (.refl f)
  | retiring => exact .inl (.refl f)

/-! ## Vacating (R63) -/

theorem Follower.cleared_powerOn : Follower.powerOn.Cleared where
  state := rfl
  slotA := rfl
  slotB := rfl
  sound := { reload := by decide, trusted := nofun, settling := nofun, rateBase := nofun, attempts := nofun, step := nofun,
             vacant := fun _ => rfl, faults := by decide }

theorem Follower.cleared_vacated : f.vacated.Cleared where
  state := rfl
  slotA := rfl
  slotB := rfl
  sound := { Follower.cleared_powerOn.sound with }

end Keeps

end Sys2Proof.Machine

/-! PROOFS. What one command makes of each follower record, and the soundness that every step keeps (Chapters 4 to 7). -/

namespace Sys2Proof.Machine

/-! ## The operations, record by record -/

section Equations

variable (s : State)

theorem State.follower_settleStage_self (p : RackId) (i : FollowerId) (theta : Int) (t4 : Nat) :
    (s.settleStage p i theta t4).follower i =
      (s.follower i).settled (decide ((s.rack p).trustOffset < theta.natAbs)) s.row.state.following t4 := by
  unfold State.settleStage Follower.settled
  dsimp only
  generalize (s.follower i).goodExchange t4 = g
  cases hg : g.state with
  | settling =>
    by_cases hb : (s.rack p).trustOffset < theta.natAbs
    · simp [hb]
    · by_cases hf : s.row.state.following = true
      · by_cases hc : g.settleCount ≤ 1 <;> simp [hb, hf, hc, Follower.noticedIf]
      · simp [hb, hf]
  | trusted => by_cases hb : (s.rack p).trustOffset < theta.natAbs <;> simp [hb]
  | stale => exact State.follower_setFollower_self _ _ _
  | vacant | muted | retiring => rfl

theorem State.follower_takeAck_self (i : FollowerId) (k : OrderKind) (r : AckResult) :
    (s.takeAck i k r).follower i = (s.follower i).acked k r s.now := by
  cases r <;> simp [State.takeAck, Follower.acked]

theorem State.follower_holdingReport_self (i : FollowerId) (flag : Bool) :
    (s.holdingReport i flag).follower i = (s.follower i).reported flag := by
  unfold State.holdingReport Follower.reported
  dsimp only
  split
  · rfl
  · split <;> simp

theorem State.follower_orderStage_self (i : FollowerId) (carried : Option OrderKind) (r : Reply) :
    (s.orderStage i carried r).follower i = (s.follower i).ordered carried r s.now := by
  have attempted : ((if carried.isSome then s.addAttempt i else s).holdingReport i r.holding).follower i =
      (if carried.isSome then (s.follower i).attempted else s.follower i).reported r.holding := by
    rw [State.follower_holdingReport_self]
    split <;> simp
  unfold State.orderStage Follower.ordered
  cases r.ack with
  | none => exact attempted
  | some a =>
    obtain ⟨k, result⟩ := a
    by_cases hk : carried = some k
    · simp only [hk, if_true]
      exact s.follower_takeAck_self i k result
    · simp only [hk, if_false]
      exact attempted

theorem State.rack_congr {s t : State} (h : t.racks = s.racks) (p : RackId) : t.rack p = s.rack p := by simp only [State.rack, h]

theorem State.port_congr {s t : State} (h : t.racks = s.racks) (p : RackId) : t.port p = s.port p := by
  rw [State.port, State.rack_congr h]
  rfl

/-- What a counted fault does before its exchange is ended: the attempt, the fault fields, the budget (R66, R95, R119). -/
def State.chargeFault (s : State) (p : RackId) (i : FollowerId) (k : FaultKind) (attempt : Bool) : State :=
  ((if attempt then s.addAttempt i else s).countFault i k).decrementBudget p

theorem State.faultExchange_eq {p : RackId} {x : Exchange} (k : FaultKind) (attempt : Bool) (hx : (s.port p).exchange = some x) :
    s.faultExchange p k attempt =
      (s.chargeFault p x.follower k (attempt && x.order.isSome && (s.follower x.follower).state != .retiring)).endExchange p .idle := by
  unfold State.faultExchange
  rw [hx]
  rfl

theorem State.chargeFault_port (p : RackId) (i : FollowerId) (k : FaultKind) (attempt : Bool) :
    (s.chargeFault p i k attempt).port p = (s.port p).spent := by
  unfold State.chargeFault
  rw [State.port_decrementBudget_self, State.port_congr (State.countFault_racks _ _ _)]
  split
  · rw [State.port_congr (State.addAttempt_racks _ _)]
  · rfl

theorem Port.spent_exchange (q : Port) : q.spent.exchange = q.exchange := by unfold Port.spent; split <;> rfl

theorem State.chargeFault_follower_self (p : RackId) (i : FollowerId) (k : FaultKind) (attempt : Bool) :
    (s.chargeFault p i k attempt).follower i =
      (if attempt then (s.follower i).attempted else s.follower i).faulted (s.rack (s.follower i).port).faultLimit k := by
  have faulted (u : State) : (u.countFault i k).follower i = (u.follower i).faulted (u.rack (u.follower i).port).faultLimit k :=
    u.follower_countFault_self i k
  unfold State.chargeFault
  rw [State.follower_decrementBudget, faulted]
  cases attempt with
  | false => rfl
  | true =>
    simp only [if_true]
    rw [State.follower_addAttempt_self, (Follower.keeps_attempted _).port, State.rack_congr (State.addAttempt_racks s i)]

theorem State.chargeFault_follower_ne (p : RackId) {i j : FollowerId} (k : FaultKind) (attempt : Bool) (h : i ≠ j) :
    (s.chargeFault p i k attempt).follower j = s.follower j := by
  unfold State.chargeFault
  rw [State.follower_decrementBudget, State.follower_countFault_ne _ _ h]
  split
  · exact s.follower_addAttempt_ne h
  · rfl

/-- The end of an exchange in a counted fault: the record it addressed, which becomes Vacant where it was Retiring (R61, R66, R119). -/
theorem State.follower_faultExchange {p : RackId} {x : Exchange} (k : FaultKind) (attempt : Bool)
    (hx : (s.port p).exchange = some x) (j : FollowerId) :
    (s.faultExchange p k attempt).follower j =
      if j = x.follower then
        let f := s.follower j
        if f.state = .retiring then (f.faulted (s.rack f.port).faultLimit k).retired
        else (if attempt && x.order.isSome then f.attempted else f).faulted (s.rack f.port).faultLimit k
      else s.follower j := by
  have hx' (b : Bool) : ((s.chargeFault p x.follower k b).port p).exchange = some x := by
    rw [State.chargeFault_port, Port.spent_exchange, hx]
  rw [State.faultExchange_eq s k attempt hx, State.follower_endExchange _ _ (hx' _)]
  by_cases hj : j = x.follower
  · subst hj
    have state (f : Follower) (l : Nat) : (f.faulted l k).state = .retiring ↔ f.state = .retiring := (f.keeps_faulted l k).retiring
    rw [State.chargeFault_follower_self]
    by_cases hr : (s.follower x.follower).state = .retiring
    · simp [hr, state, Follower.retired]
    · have attempted : (if (attempt && x.order.isSome) = true then (s.follower x.follower).attempted else s.follower x.follower).state ≠
          .retiring := by
        split
        · exact fun e => hr ((Follower.keeps_attempted _).retiring.mp e)
        · exact hr
      have hb : ((s.follower x.follower).state != .retiring) = true := bne_iff_ne.mpr hr
      simp only [hb, Bool.and_true, state, attempted, hr, and_false, if_true, if_false]
  · rw [State.chargeFault_follower_ne _ _ _ _ (Ne.symm hj)]
    simp [hj]

end Equations

end Sys2Proof.Machine

/-! PROOFS. The five stages of a good Reply (R88), and what one command makes of each follower record. -/

namespace Sys2Proof.Machine

section Stages

variable (s : State) (p : RackId) (x : Exchange) (c : Capture) (r : Reply)

theorem State.rack_restartedAnnounce (restarted : Bool) (k : RackId) :
    (s.restartedAnnounce p restarted).rack k = if p = k ∧ restarted = true then (s.rack k).setAnnounce else s.rack k := by
  unfold State.restartedAnnounce
  cases restarted with
  | false => simp
  | true =>
    by_cases e : p = k
    · subst e; simp
    · simp [e, State.rack_setRack]

theorem State.restartedAnnounce_follower (restarted : Bool) (i : FollowerId) :
    (s.restartedAnnounce p restarted).follower i = s.follower i := by
  unfold State.restartedAnnounce; split <;> rfl

theorem Rack.setAnnounce_eq (r : Rack) :
    r.setAnnounce = { r with port := { r.port with pendingAnnounce := r.port.pendingAnnounce || r.port.state == .running } } := by
  unfold Rack.setAnnounce
  split
  · rename_i h
    simp [h]
  · rename_i h
    simp [beq_eq_false_iff_ne.mpr h]

/-- A restarted flag sets the pending Announce of its Running port (R82). -/
theorem State.port_restartedAnnounce (restarted : Bool) :
    (s.restartedAnnounce p restarted).port p = { s.port p with
      pendingAnnounce := (s.port p).pendingAnnounce || (restarted && (s.port p).state == .running) } := by
  unfold State.port
  rw [State.rack_restartedAnnounce, Rack.setAnnounce_eq]
  cases restarted <;> simp

/-- The two stamps and the two readings of an exchange (R98). -/
def Exchange.stamps (x : Exchange) (c : Capture) (r : Reply) : Timestamps := ⟨x.t1, r.t2, r.t3, c.t4⟩

/-- The part after stages 1 to 3 of a good Reply of a Settling, Trusted or Stale record. -/
def State.afterStages : State :=
  let t := s.restartedAnnounce p r.restarted
  ((t.estimateStage p x.follower (x.stamps c r) c r.restarted).settleStage p x.follower
    ((x.stamps c r).correctedOffset (t.port p).asymmetry) c.t4).orderStage x.follower x.order r

variable {s p x c r}

theorem State.processReply_of_active (h : (s.follower x.follower).state.active = true) :
    s.processReply p x c r =
      ((s.afterStages p x c r).answerAsks p x.follower c r.t3 r.asks).1.clearBeforeVerdict.sendVerdict p x
        ((s.afterStages p x c r).answerAsks p x.follower c r.t3 r.asks).2 := by
  rw [← s.restartedAnnounce_follower p r.restarted] at h
  unfold State.processReply
  dsimp only
  cases hs : ((s.restartedAnnounce p r.restarted).follower x.follower).state <;> simp only [hs, FollowerState.active] at h
  all_goals first
    | exact absurd h Bool.false_ne_true
    | rfl

theorem State.processReply_of_muted (h : (s.follower x.follower).state = .muted) :
    s.processReply p x c r =
      ((s.restartedAnnounce p r.restarted).orderStage x.follower x.order r).clearBeforeVerdict.sendVerdict p x
        (r.asks.map Ask.withdrawn) := by
  rw [← s.restartedAnnounce_follower p r.restarted] at h
  unfold State.processReply
  simp only [h]

theorem State.processReply_of_leaving (h : (s.follower x.follower).state = .vacant ∨ (s.follower x.follower).state = .retiring) :
    s.processReply p x c r = (s.restartedAnnounce p r.restarted).endExchange p .idle := by
  rw [← s.restartedAnnounce_follower p r.restarted] at h
  unfold State.processReply
  rcases h with h | h <;> simp only [h]

variable (s p x c r)

/-- The estimate that stage 1 publishes (R100 to R107). -/
def State.newEstimate : Estimate := (s.follower x.follower).estimate (s.port p) (x.stamps c r) c r.restarted

/-- The new offset exceeds the trust offset of the rack (R65). -/
def State.beyondTrust : Bool :=
  decide ((s.rack p).trustOffset < ((x.stamps c r).correctedOffset (s.port p).asymmetry).natAbs)

/-- The record of an exchange after stages 1 to 3 of its good Reply. -/
def State.repliedRecord : Follower :=
  (((s.follower x.follower).publish (s.newEstimate p x c r)).settled (s.beyondTrust p x c r) s.row.state.following c.t4).ordered
    x.order r s.now

theorem State.follower_afterStages_self : (s.afterStages p x c r).follower x.follower = s.repliedRecord p x c r := by
  have rack : ((s.restartedAnnounce p r.restarted).rack p).trustOffset = (s.rack p).trustOffset := by
    rw [State.rack_restartedAnnounce, Rack.setAnnounce_eq]
    split <;> rfl
  have row : (s.restartedAnnounce p r.restarted).row = s.row :=
    s.restartedAnnounce_row p r.restarted
  unfold State.afterStages State.repliedRecord State.newEstimate State.beyondTrust State.estimateStage
  dsimp only
  rw [State.follower_orderStage_self, State.follower_settleStage_self, State.follower_setFollower_self,
    State.restartedAnnounce_follower, State.port_restartedAnnounce]
  simp only [State.setFollower_rack, State.setFollower_row, rack, row, State.now, State.settleStage_row]
  rfl

theorem State.follower_afterStages_ne {j : FollowerId} (h : x.follower ≠ j) : (s.afterStages p x c r).follower j = s.follower j := by
  unfold State.afterStages State.estimateStage
  dsimp only
  rw [State.follower_orderStage_ne _ _ _ h, State.follower_settleStage_ne _ _ _ _ h, State.follower_setFollower_ne _ _ h,
    State.restartedAnnounce_follower]

theorem State.sendVerdict_follower (l : List Notice) (j : FollowerId) : (s.sendVerdict p x l).follower j = s.follower j := rfl

theorem State.clearBeforeVerdict_follower (j : FollowerId) : s.clearBeforeVerdict.follower j = s.follower j := by
  unfold State.clearBeforeVerdict
  split
  · split <;> rfl
  · rfl

theorem State.answerAsks_follower (i j : FollowerId) (t3 : Nat) (asks : List Ask) :
    (s.answerAsks p i c t3 asks).1.follower j = s.follower j := by
  obtain ⟨fences, h⟩ := s.answerAsks_eq p i c t3 asks
  rw [h]
  rfl

variable {s p x c r}

theorem State.follower_processReply_active (h : (s.follower x.follower).state.active = true) (j : FollowerId) :
    (s.processReply p x c r).follower j = if x.follower = j then s.repliedRecord p x c r else s.follower j := by
  rw [State.processReply_of_active h, State.sendVerdict_follower, State.clearBeforeVerdict_follower, State.answerAsks_follower]
  split
  · rename_i e
    rw [← e, State.follower_afterStages_self]
  · exact s.follower_afterStages_ne p x c r ‹_›

theorem State.follower_processReply_muted (h : (s.follower x.follower).state = .muted) (j : FollowerId) :
    (s.processReply p x c r).follower j =
      if x.follower = j then (s.follower j).ordered x.order r s.now else s.follower j := by
  have now : (s.restartedAnnounce p r.restarted).now = s.now :=
    congrArg Row.whole (s.restartedAnnounce_row p r.restarted)
  rw [State.processReply_of_muted h, State.sendVerdict_follower, State.clearBeforeVerdict_follower]
  split
  · rename_i e
    subst e
    rw [State.follower_orderStage_self, State.restartedAnnounce_follower, now]
  · rw [State.follower_orderStage_ne _ _ _ ‹_›, State.restartedAnnounce_follower]

theorem State.follower_processReply_leaving (hx : (s.port p).exchange = some x)
    (h : (s.follower x.follower).state = .vacant ∨ (s.follower x.follower).state = .retiring) (j : FollowerId) :
    (s.processReply p x c r).follower j =
      if j = x.follower ∧ (s.follower j).state = .retiring then (s.follower j).retired else s.follower j := by
  have hx' : ((s.restartedAnnounce p r.restarted).port p).exchange = some x := by rw [State.port_restartedAnnounce]; exact hx
  rw [State.processReply_of_leaving h, State.follower_endExchange _ _ hx', State.restartedAnnounce_follower]
  rfl

end Stages

end Sys2Proof.Machine

/-! PROOFS. What one command makes of each follower record, and the soundness that every step keeps (Chapters 4 to 7). -/

namespace Sys2Proof.Machine

/-! ## Every record kept or vacated -/

theorem Follower.Cleared.of_keeps {f g : Follower} (h : f.Cleared) (k : f.Keeps g) : g.Cleared :=
  ⟨k.vacant.mpr h.state, k.slotA.trans h.slotA, k.slotB.trans h.slotB, k.sound h.sound⟩

/-- Every record keeps what `Follower.Keeps` says, or is Vacant and cleared. -/
def State.RecordsMove (s t : State) : Prop := ∀ i, (s.follower i).Keeps (t.follower i) ∨ (t.follower i).Cleared

section RecordsMove

variable {s t u : State}

theorem State.RecordsMove.of_keeps (h : ∀ i, (s.follower i).Keeps (t.follower i)) : s.RecordsMove t := fun i => .inl (h i)

theorem State.RecordsMove.of_eq (h : t.followers = s.followers) : s.RecordsMove t :=
  .of_keeps fun i => by rw [show t.follower i = s.follower i by simp only [State.follower, h]]; exact .refl _

theorem State.RecordsMove.trans (h : s.RecordsMove t) (k : t.RecordsMove u) : s.RecordsMove u := by
  intro i
  rcases h i, k i with ⟨h | h, k | k⟩
  · exact .inl (h.trans k)
  · exact .inr k
  · exact .inr (h.of_keeps k)
  · exact .inr k

/-- A move after writes that leave the records as they are. -/
theorem State.RecordsMove.after (h : t.RecordsMove u) (e : t.followers = s.followers) : s.RecordsMove u := (of_eq e).trans h

theorem State.RecordsMove.ite {d : Prop} [Decidable d] (h : s.RecordsMove t) (k : s.RecordsMove u) :
    s.RecordsMove (if d then t else u) := by
  split
  · exact h
  · exact k

/-- One record written, the others kept. -/
theorem State.RecordsMove.one {i : FollowerId} (hne : ∀ j, i ≠ j → t.follower j = s.follower j)
    (hi : (s.follower i).Keeps (t.follower i) ∨ (t.follower i).Cleared) : s.RecordsMove t := by
  intro j
  by_cases e : i = j
  · exact e ▸ hi
  · exact .inl (by rw [hne j e]; exact .refl _)

variable (s)

theorem State.rowEpochs_records : s.RecordsMove s.rowEpochs :=
  .of_keeps fun i => by rw [State.follower_rowEpochs]; exact Follower.keeps_rowEpoch _ _

theorem State.deliverBoundary_records : s.RecordsMove s.deliverBoundary :=
  .of_keeps fun i => by rw [State.follower_deliverBoundary]; exact Follower.keeps_aged _ _

theorem State.crossAll_records : s.RecordsMove s.crossAll := fun i => by
  rw [State.follower_crossAll]
  split
  · exact .inr (Follower.cleared_vacated _)
  · exact .inl (.refl _)

theorem State.endExchange_records (p : RackId) (a : Activity) : s.RecordsMove (s.endExchange p a) := fun i => by
  rw [State.endExchange_follower]
  split
  · exact .inr (Follower.cleared_vacated _)
  · exact .inl (.refl _)

theorem State.deliverStep_records (n : Nat) : s.RecordsMove (s.deliverStep n) := by
  have crossed : s.RecordsMove ({ s with boundaries := s.boundaries + n } : State).crossAll :=
    .after (State.crossAll_records _) rfl
  unfold State.deliverStep State.epochAndBoundary
  dsimp only
  generalize ({ s with boundaries := s.boundaries + n } : State).crossAll = t at crossed ⊢
  have chosen : s.RecordsMove t.choose := crossed.trans (.of_eq rfl)
  refine .ite (.ite (chosen.trans ?_) (chosen.trans ?_)) (crossed.trans t.rowEpochs_records)
  · exact (State.deliverBoundary_records _).trans (State.rowEpochs_records _)
  · exact (State.rowEpochs_records _).trans (State.deliverBoundary_records _)

theorem State.usedMark_records (e : Int) (v : Nat) : s.RecordsMove (s.usedMark e v) :=
  .ite (.after (State.deliverStep_records _ _) rfl) (.of_eq rfl)

theorem State.inUseMark_records (r : Reference) (e : Int) (v : Nat) : s.RecordsMove (s.inUseMark r e v) :=
  .ite (.of_eq rfl) (.ite (.ite (.of_eq (State.faultReference_followers _ _)) (.of_eq rfl)) (.after (State.usedMark_records _ _ _) rfl))

theorem State.judgeMark_records (r : Reference) (m : Mark) (c : Bool) : s.RecordsMove (s.judgeMark r m c) :=
  .ite (.ite (.after (State.inUseMark_records _ _ _ _) rfl) (.of_eq (State.designate_followers _)))
    (.of_eq (State.inconsistentMark_followers _ _))

theorem State.linkMark_records (r : Reference) (a : Nat) (m : Option MarkFields) : s.RecordsMove (s.linkMark r a m) := by
  unfold State.linkMark
  split
  · exact .of_eq (State.inconsistentMark_followers _ _)
  · exact s.judgeMark_records _ _ _

theorem State.faultExchange_records (p : RackId) (k : FaultKind) (attempt : Bool) : s.RecordsMove (s.faultExchange p k attempt) := by
  cases hx : (s.port p).exchange with
  | none => exact .of_eq (by simp only [State.faultExchange, hx])
  | some x =>
    refine .one (i := x.follower) (fun j hj => ?_) ?_
    · rw [State.follower_faultExchange s k attempt hx, if_neg (Ne.symm hj)]
    · rw [State.follower_faultExchange s k attempt hx, if_pos rfl]
      dsimp only
      split
      · exact .inr (Follower.cleared_vacated _)
      · exact .inl (Follower.Keeps.trans (.ite (fun _ => Follower.keeps_attempted _) fun _ => .refl _) (Follower.keeps_faulted _ _ _))

theorem State.leaveRunning_records (p : RackId) (a : PortState) : s.RecordsMove (s.leaveRunning p a) :=
  (s.endExchange_records p .idle).trans (.of_eq rfl)

theorem State.amendEnabled_records (p : RackId) (enabled : Option Bool) : s.RecordsMove (s.amendEnabled p enabled) := by
  unfold State.amendEnabled
  split
  · exact .of_eq (State.enablePort_followers _ _)
  · unfold State.disablePort
    dsimp only
    split
    · exact s.leaveRunning_records p _
    · exact .of_eq rfl
    · exact .of_eq rfl
  · exact .of_eq rfl

theorem State.restartRow_records : s.RecordsMove s.restartRow := by
  unfold State.restartRow
  dsimp only
  have crossed : s.RecordsMove (({ s with row := s.row.restarted } : State).enterRowState .acquiring).crossAll :=
    .after (State.crossAll_records _) rfl
  generalize (({ s with row := s.row.restarted } : State).enterRowState .acquiring).crossAll = t at crossed ⊢
  have voided : s.RecordsMove t.rowEpochs.voidFences := crossed.trans (.trans t.rowEpochs_records (.of_eq rfl))
  exact voided.trans (.of_eq (foldl_keeps State.driftRestart State.followers State.driftRestart_followers allRacks _))

theorem State.missMark_followers (r : Reference) : (s.missMark r).followers = s.followers := by
  dsimp only [State.missMark]
  split <;> simp

end RecordsMove

/-! ## Requests that write one record (R54 to R59, R72, R114) -/

section Requests

variable (f : Follower)

/-- A marked field written where the write keeps the record. -/
theorem Follower.keeps_amendReload (v : Byte) : f.Keeps (f.amendReload (clampReload v)) := by
  have bounds := clampNat_bounds v.toNat (show 1 ≤ 15 by decide)
  have count (ht : f.state = .trusted) : (f.amendReload (clampReload v)).settleCount = f.settleCount := by
    simp [Follower.amendReload, ht]
  refine ⟨rfl, rfl, rfl, rfl, rfl, .rfl, .rfl, fun ht => ⟨ht, count ht⟩,
    fun h => { h with reload := bounds, trusted := ?_, settling := ?_ }⟩
  · intro ht
    obtain ⟨hc, hp⟩ := h.trusted ht
    exact ⟨(count ht).trans hc, hp⟩
  · intro hs
    have hs' : f.state = .settling := hs
    show 1 ≤ (if f.state = .settling then min f.settleCount (clampReload v) else f.settleCount) ∧
      (if f.state = .settling then min f.settleCount (clampReload v) else f.settleCount) ≤ clampReload v
    rw [if_pos hs']
    exact ⟨le_min (h.settling hs').1 bounds.1, min_le_right _ _⟩

/-- AMEND-FOLLOWER writes its marked fields one after another; each write keeps the record (R56). -/
theorem Follower.keeps_amend (presence : Nat) (o : FollowerOperands) : f.Keeps (f.amend presence o) := by
  have free {g : Follower} {k : AgentKind} {a b c d : Nat} {n : NotifyFlags} : g.Keeps { g with
      kind := k, periodClass := a, wander := b, shift := c, maxAge := d, notify := n } :=
    ⟨rfl, rfl, rfl, rfl, rfl, .rfl, .rfl, .same, fun h => { h with }⟩
  unfold Follower.amend
  extract_lets f0 f1 f2 f3 f4 f5
  have kind : f.Keeps f0 := by dsimp only [f0]; split; exacts [free, .refl _]
  have period : f0.Keeps f1 := by dsimp only [f1]; split; exacts [free, .refl _]
  have reload : f1.Keeps f2 := by dsimp only [f2]; split; exacts [Follower.keeps_amendReload _ _, .refl _]
  have wander : f2.Keeps f3 := by dsimp only [f3]; split; exacts [free, .refl _]
  have shift : f3.Keeps f4 := by dsimp only [f4]; split; exacts [free, .refl _]
  have maxAge : f4.Keeps f5 := by dsimp only [f5]; split; exacts [free, .refl _]
  refine (kind.trans (period.trans (reload.trans (wander.trans (shift.trans maxAge))))).trans ?_
  split
  exacts [free, .refl _]

end Requests

end Sys2Proof.Machine

/-! PROOFS. The statements that hold of every follower record at every step: soundness, distinct pairs, ranges of estimates, trust and publication (Chapters 4, 5 and 6). -/

namespace Sys2Proof.Machine

/-- What command `c` can make of the record `i`. -/
inductive State.RecordMove (s : State) (i : FollowerId) : Instr → Follower → Prop
  | keeps {c : Instr} {g : Follower} (h : (s.follower i).Keeps g) : RecordMove s i c g
  | vacated {c : Instr} {g : Follower} (h : g.Cleared) : RecordMove s i c g
  | enrolled (port slot : Byte) (o : FollowerOperands) (p : RackId) (k : Fin 40) (kind : AgentKind)
      (hp : rackOf port = some p) (hk : slotOf slot = some k) (hfree : s.findFollower (fun f => f.holds port slot) = none)
      (hi : s.findFollower (fun f => f.state == .vacant) = some i) : RecordMove s i (.enrol port slot o) (enrolled p k kind o s.now)
  | retires (b : Byte) (hv : (s.follower i).state ≠ .vacant) :
      RecordMove s i (.retire b) { s.follower i with state := .retiring }
  | published (p : RackId) (received : List Byte) (x : Exchange) (c : Capture) (r : Reply)
      (hx : (s.port p).exchange = some x) (hi : x.follower = i) (ha : (s.follower i).state.active = true)
      (hfault : (⟨x.t1, r.t2, r.t3, c.t4⟩ : Timestamps).fault (s.port p).delayCeiling = none) :
      RecordMove s i (.replyReceptionEnd p received) (s.repliedRecord p x c r)

section Moves

variable {s t : State} {i : FollowerId} {c : Instr}

theorem State.RecordsMove.move (h : s.RecordsMove t) : s.RecordMove i c (t.follower i) :=
  (h i).elim .keeps .vacated

/-- A command that writes one record. -/
theorem State.RecordMove.of_setFollower {k : FollowerId} {g : Follower} (h : s.RecordMove k c g) :
    s.RecordMove i c ((s.setFollower k g).follower i) := by
  rw [State.follower_setFollower]
  split
  · rename_i e
    exact e ▸ h
  · exact .keeps (.refl _)

@[simp] theorem State.amendRow_followers (presence : Nat) (o : RowOperands) : (s.amendRow presence o).followers = s.followers := by
  unfold State.amendRow State.amendFences
  dsimp only
  split <;> simp

/-- A Muted record writes nothing but its state. -/
theorem Follower.keeps_muted (f : Follower) (hv : f.state ≠ .vacant) (hr : f.state ≠ .retiring) : f.Keeps { f with state := .muted } :=
  ⟨rfl, rfl, rfl, rfl, rfl, by simp [hv], by simp [hr], nofun, fun h => { h with trusted := nofun, settling := nofun, vacant := nofun }⟩

theorem Follower.keeps_unmuted (f : Follower) (h : f.state = .muted) (now : Nat) :
    f.Keeps { (f.epoch now).resettle with consecutiveFaults := 0, nextDue := now } := by
  have settled : f.Keeps (f.epoch now).resettle :=
    (f.keeps_epoch now).trans (Follower.keeps_resettle _ (by simp [Follower.epoch, h]) (by simp [Follower.epoch, h]))
  exact settled.trans ⟨rfl, rfl, rfl, rfl, rfl, .rfl, .rfl, .same, fun h => { h with faults := Nat.zero_le _ }⟩

theorem Follower.keeps_placed (f : Follower) (k : OrderKind) (ha : f.state.active = true)
    (hstep : k = .step → f.published.valid = true ∧ f.holding = false) : f.Keeps { f with pendingOrder := some ⟨k, 0⟩ } := by
  refine ⟨rfl, rfl, rfl, rfl, rfl, .rfl, .rfl, .same, fun h => { h with attempts := ?_, step := ?_, vacant := ?_ }⟩
  · rintro _ ⟨⟩
    exact Nat.zero_le _
  · rintro _ ⟨⟩
    exact hstep
  · exact fun hv => absurd hv (FollowerState.active_enrolled ha).1

/-- What a good Reply makes of the records. -/
theorem State.processReply_move {p : RackId} {x : Exchange} {cap : Capture} {r : Reply} {received : List Byte}
    (hx : (s.port p).exchange = some x)
    (hfault : (⟨x.t1, r.t2, r.t3, cap.t4⟩ : Timestamps).fault (s.port p).delayCeiling = none) :
    s.RecordMove i (.replyReceptionEnd p received) ((s.processReply p x cap r).follower i) := by
  by_cases ha : (s.follower x.follower).state.active = true
  · rw [State.follower_processReply_active ha]
    split
    · rename_i e
      exact .published p received x cap r hx e (e ▸ ha) hfault
    · exact .keeps (.refl _)
  · by_cases hm : (s.follower x.follower).state = .muted
    · rw [State.follower_processReply_muted hm]
      split
      · exact .keeps (Follower.keeps_ordered _ _ _ _)
      · exact .keeps (.refl _)
    · rw [State.follower_processReply_leaving hx (FollowerState.leaving_of ha hm)]
      split
      · exact .vacated (Follower.cleared_vacated _)
      · exact .keeps (.refl _)

theorem Effect.recordMove (h : Effect s c t) : s.RecordMove i c (t.follower i) := by
  cases h with
  | reset => exact .vacated (g := State.reset.follower i) (by rw [State.reset_follower]; exact Follower.cleared_powerOn)
  | warmUpEnd => exact State.RecordsMove.move (.of_eq (by simp [State.endWarmUp]))
  | linkMark => exact State.RecordsMove.move (.after (State.linkMark_records _ _ _ _) rfl)
  | pulseMark => exact State.RecordsMove.move (.after (State.judgeMark_records s.choose _ _ _) rfl)
  | missMark r => exact State.RecordsMove.move (.of_eq (s.missMark_followers r))
  | boundary => exact State.RecordsMove.move (.after (State.deliverBoundary_records _) rfl)
  | exchangeStart p j =>
    have due : (s.follower j).Keeps { s.follower j with nextDue := s.nextDueAfter (s.follower j) (s.rack p).drift.state } :=
      ⟨rfl, rfl, rfl, rfl, rfl, .rfl, .rfl, .same, fun h => { h with }⟩
    exact .of_setFollower (s := s) (.keeps due)
  | echoFault p x attempt => exact (s.faultExchange_records p .echo attempt).move
  | timeout p x => exact (s.faultExchange_records p .timeout true).move
  | badReply p received x cap k => exact (s.faultExchange_records p k true).move
  | goodReply p received x cap r hx hp hr hparse hfault => exact State.processReply_move hx hfault
  | verdictEnd p x => exact State.RecordsMove.move (.after (State.endExchange_records _ _ _) rfl)
  | guardTrip p => exact (s.leaveRunning_records p .halted).move
  | enrol port slot o p k kind j hp hk hfree hj =>
    exact .of_setFollower (.enrolled port slot o p k kind hp hk hfree hj)
  | amendFollower b presence o => exact .of_setFollower (.keeps (Follower.keeps_amend _ _ _))
  | mute b hv hr => exact .of_setFollower (.keeps (Follower.keeps_muted _ hv hr))
  | unmute b h => exact .of_setFollower (.keeps (Follower.keeps_unmuted _ h s.now))
  | retireLater b hv => exact .of_setFollower (.retires b hv)
  | retireNow b =>
    refine State.RecordsMove.move (.one (i := followerOf b) (fun j hj => s.follower_vacate_ne hj) (.inr ?_))
    exact (s.follower_vacate_self (followerOf b)).symm ▸ Follower.cleared_vacated _
  | noticeRead j =>
    have read : (s.follower j).Keeps { s.follower j with noticed := false } :=
      ⟨rfl, rfl, rfl, rfl, rfl, .rfl, .rfl, .same, fun h => { h with }⟩
    exact .of_setFollower (.keeps (read))
  | order b kind k ha hn hstep => exact .of_setFollower (.keeps (Follower.keeps_placed _ k ha hstep))
  | amendRack hc p presence o =>
    refine State.RecordsMove.move (.after (State.amendEnabled_records _ _ _) ?_)
    unfold State.amendDrift
    split <;> simp
  | amendRow presence o => exact State.RecordsMove.move (.of_eq (by simp))
  | restartRow => exact (s.restartRow_records.trans (.of_eq (State.answer_followers _ _ _))).move
  | _ => exact State.RecordsMove.move (.of_eq (by simp))

/-! ## Soundness (R52, R65, R104, R113) -/

theorem Follower.publish_state (f : Follower) (e : Estimate) : (f.publish e).state = f.state := by
  unfold Follower.publish; split <;> rfl

theorem Follower.publish_place (f : Follower) (e : Estimate) : (f.publish e).port = f.port ∧ (f.publish e).slot = f.slot := by
  unfold Follower.publish; split <;> exact ⟨rfl, rfl⟩

theorem Follower.Sound.publish {f : Follower} (h : f.Sound) {e : Estimate} (he : e.valid = true) : (f.publish e).Sound := by
  unfold Follower.publish
  split <;> exact { h with
    trusted := fun ht => ⟨(h.trusted ht).1, he⟩
    rateBase := fun _ => he
    step := fun o ho hk => ⟨he, (h.step o ho hk).2⟩ }

theorem Follower.Sound.settled {f : Follower} (h : f.Sound) (hp : f.published.valid = true) (beyond following : Bool) (t4 : Nat) :
    (f.settled beyond following t4).Sound := by
  rcases f.keeps_settled beyond following t4 with k | ⟨-, -, -, -, e⟩
  · exact k.sound h
  · rw [e]
    exact { (f.keeps_goodExchange t4).sound h with trusted := fun _ => ⟨rfl, hp⟩, settling := nofun, vacant := nofun }

theorem Follower.sound_enrolled (p : RackId) (k : Fin 40) (kind : AgentKind) (o : FollowerOperands) (now : Nat) :
    (enrolled p k kind o now).Sound := by
  have bounds := clampNat_bounds o.reload.toNat (show 1 ≤ 15 by decide)
  exact {
    reload := bounds, trusted := nofun, settling := fun _ => ⟨bounds.1, le_refl _⟩, rateBase := nofun
    attempts := nofun, step := nofun, vacant := nofun, faults := by exact Nat.zero_le _ }

theorem State.RecordMove.sound {g : Follower} (h : s.RecordMove i c g) (hs : (s.follower i).Sound) : g.Sound := by
  cases h with
  | keeps h => exact h.sound hs
  | vacated h => exact h.sound
  | enrolled => exact Follower.sound_enrolled _ _ _ _ _
  | retires b hv => exact { hs with trusted := nofun, settling := nofun, vacant := nofun }
  | published p received x cap r hx hi =>
    subst hi
    refine (Follower.keeps_ordered _ _ _ _).sound (Follower.Sound.settled (hs.publish rfl) ?_ _ _ _)
    rw [Follower.published_publish]
    rfl

/-! ## Ports and slots (R54) -/

/-- A record that is not Vacant stays on its port and slot, or has just been enrolled there. -/
theorem State.RecordMove.place {g : Follower} (h : s.RecordMove i c g) (hv : g.state ≠ .vacant) :
    ((s.follower i).state ≠ .vacant ∧ g.port = (s.follower i).port ∧ g.slot = (s.follower i).slot) ∨
      (s.findFollower (fun f => f.state == .vacant) = some i ∧
        ∃ port slot, s.findFollower (fun f => f.holds port slot) = none ∧ g.port.val = port.toNat ∧ g.slot.val = slot.toNat) := by
  cases h with
  | keeps h => exact .inl ⟨fun e => hv (h.vacant.mpr e), h.port, h.slot⟩
  | vacated h => exact absurd h.state hv
  | enrolled port slot o p k kind hp hk hfree hi =>
    refine .inr ⟨hi, port, slot, hfree, ?_, ?_⟩
    · unfold rackOf at hp
      split at hp
      · cases hp; rfl
      · simp at hp
    · unfold slotOf at hk
      split at hk
      · cases hk; rfl
      · simp at hk
  | retires b hv' => exact .inl ⟨hv', rfl, rfl⟩
  | published p received x cap r hx hi ha =>
    subst hi
    have place := Follower.publish_place (s.follower x.follower) (s.newEstimate p x cap r)
    have settled (f : Follower) (b a : Bool) (t4 : Nat) : (f.settled b a t4).port = f.port ∧ (f.settled b a t4).slot = f.slot := by
      rcases f.keeps_settled b a t4 with k | ⟨-, -, -, -, e⟩
      · exact ⟨k.port, k.slot⟩
      · rw [e]; exact ⟨rfl, rfl⟩
    have ordered := Follower.keeps_ordered
      (((s.follower x.follower).publish (s.newEstimate p x cap r)).settled (s.beyondTrust p x cap r) s.row.state.following cap.t4)
      x.order r s.now
    exact .inl ⟨(FollowerState.active_enrolled ha).1,
      ordered.port.trans ((settled _ _ _ _).1.trans place.1), ordered.slot.trans ((settled _ _ _ _).2.trans place.2)⟩

theorem Effect.pairsDistinct (h : Effect s c t) (hs : s.PairsDistinct) : t.PairsDistinct := by
  have fresh {i j : FollowerId} {port slot : Byte} (hi : s.findFollower (fun f => f.holds port slot) = none)
      (hp : (t.follower i).port.val = port.toNat) (hk : (t.follower i).slot.val = slot.toNat)
      (hj : (s.follower j).state ≠ .vacant ∧ (t.follower j).port = (s.follower j).port ∧ (t.follower j).slot = (s.follower j).slot)
      (ep : (t.follower i).port = (t.follower j).port) (es : (t.follower i).slot = (t.follower j).slot) : False := by
    obtain ⟨hv, hjp, hjs⟩ := hj
    have free := State.findFollower_none s hi j
    rw [Bool.eq_false_iff, ne_eq, Follower.holds_iff] at free
    exact free ⟨hv, by rw [← hp, ep, hjp], by rw [← hk, es, hjs]⟩
  intro i j hvi hvj ep es
  rcases (h.recordMove (i := i)).place hvi, (h.recordMove (i := j)).place hvj with ⟨hi | ⟨hi, _, _, hfi, hpi, hsi⟩, hj | ⟨hj, _, _, hfj, hpj, hsj⟩⟩
  · exact hs i j hi.1 hj.1 (hi.2.1.symm.trans (ep.trans hj.2.1)) (hi.2.2.symm.trans (es.trans hj.2.2))
  · exact (fresh hfj hpj hsj hi ep.symm es.symm).elim
  · exact (fresh hfi hpi hsi hj ep es).elim
  · exact Option.some.inj (hi.symm.trans hj)

end Moves

/-- Settles O54: every move of a record keeps it sound. -/
theorem followerRecordsStaySound : Obligations.FollowerRecordsStaySound := by
  intro s t hs h
  refine step_keeps (P := State.FollowersSound) ?_ ?_ ?_ hs h
  · intro s t heq hs i
    exact heq.follower i ▸ hs i
  · intro s hs i
    exact hs i
  · intro s t c he hs i
    exact (he.recordMove (i := i)).sound (hs i)

/-- Settles O55: records stay where they are enrolled, and ENROL takes a pair that no record holds. -/
theorem portAndSlotPairsStayDistinct : Obligations.PortAndSlotPairsStayDistinct := by
  intro s t hs h
  refine step_keeps (P := State.PairsDistinct) ?_ ?_ ?_ hs h
  · intro s t heq hs i j
    simpa only [heq.follower] using hs i j
  · intro s hs
    exact hs
  · intro s t c he hs
    exact he.pairsDistinct hs

end Sys2Proof.Machine

/-! PROOFS. What makes a record Trusted, and what changes an estimate (Chapters 4, 5 and 6). -/

namespace Sys2Proof.Machine

section Step

variable {s t : State} {i : FollowerId} {c : Instr}

theorem State.RecordMove.of_withQueues {pending : List Instr} {wires : List LinkEvent} {n : Nat} {g : Follower}
    (h : (s.withQueues pending wires n).RecordMove i c g) : s.RecordMove i c g := by
  cases h with
  | keeps h => exact .keeps h
  | vacated h => exact .vacated h
  | enrolled port slot o p k kind hp hk hfree hi => exact .enrolled port slot o p k kind hp hk hfree hi
  | retires b hv => exact .retires b hv
  | published p received x cap r hx hi ha hf => exact .published p received x cap r hx hi ha hf

/-- What one step makes of a record; a command from outside was the front of the queue. -/
theorem step_recordMove (h : step s = .next t) (i : FollowerId) :
    ∃ c rest, s.RecordMove i c (t.follower i) ∧ (s.pending = c :: rest ∨ c.comesFromOutside = false) := by
  have stays : ∃ c rest, s.RecordMove i c (s.follower i) ∧ (s.pending = c :: rest ∨ c.comesFromOutside = false) :=
    ⟨.quietFrame 0, [], .keeps (.refl _), .inr rfl⟩
  obtain ⟨pending, wires, n, hc⟩ := step_cases h
  rcases hc with rfl | rfl | ⟨f, rfl⟩ | rfl | ⟨c, he, hq⟩
  · exact stays
  · exact stays
  · exact stays
  · exact stays
  · exact ⟨c, pending, he.recordMove.of_withQueues, hq⟩

end Step

/-! ## The record after a good Reply -/

theorem Follower.Keeps.published {f g : Follower} (h : f.Keeps g) : g.published = f.published := by
  unfold Follower.published
  rw [h.selector, h.slotA, h.slotB]

/-- Stage 2 leaves the estimates. -/
theorem Follower.settled_estimates (f : Follower) (beyond following : Bool) (t4 : Nat) :
    (f.settled beyond following t4).slotA = f.slotA ∧ (f.settled beyond following t4).slotB = f.slotB ∧
      (f.settled beyond following t4).selector = f.selector := by
  rcases f.keeps_settled beyond following t4 with k | ⟨-, -, -, -, e⟩
  · exact ⟨k.slotA, k.slotB, k.selector⟩
  · rw [e]; exact ⟨rfl, rfl, rfl⟩

section Replied

variable (s : State) (p : RackId) (x : Exchange) (c : Capture) (r : Reply)

/-- The estimates after a good Reply are those of the publication (R107). -/
theorem State.repliedRecord_estimates :
    (s.repliedRecord p x c r).slotA = ((s.follower x.follower).publish (s.newEstimate p x c r)).slotA ∧
    (s.repliedRecord p x c r).slotB = ((s.follower x.follower).publish (s.newEstimate p x c r)).slotB ∧
    (s.repliedRecord p x c r).selector = ((s.follower x.follower).publish (s.newEstimate p x c r)).selector := by
  unfold State.repliedRecord
  generalize (s.follower x.follower).publish (s.newEstimate p x c r) = g
  have ordered := (g.settled (s.beyondTrust p x c r) s.row.state.following c.t4).keeps_ordered x.order r s.now
  obtain ⟨ha, hb, hs⟩ := g.settled_estimates (s.beyondTrust p x c r) s.row.state.following c.t4
  exact ⟨ordered.slotA.trans ha, ordered.slotB.trans hb, ordered.selector.trans hs⟩

theorem State.repliedRecord_published : (s.repliedRecord p x c r).published = s.newEstimate p x c r := by
  obtain ⟨ha, hb, hs⟩ := s.repliedRecord_estimates p x c r
  rw [Follower.published, ha, hb, hs]
  exact Follower.published_publish _ _

theorem Follower.publish_count (f : Follower) (e : Estimate) : (f.publish e).settleCount = f.settleCount := by
  unfold Follower.publish; split <;> rfl

/-- A good Reply makes a record Trusted only as R65 says. -/
theorem State.repliedRecord_trusted (ht : (s.repliedRecord p x c r).state = .trusted)
    (hs : (s.follower x.follower).state ≠ .trusted) :
    (s.follower x.follower).state = .settling ∧ (s.follower x.follower).settleCount ≤ 1 ∧ s.row.state.following = true ∧
      s.beyondTrust p x c r = false ∧ (s.repliedRecord p x c r).settleCount = 0 := by
  have state := Follower.publish_state (s.follower x.follower) (s.newEstimate p x c r)
  have count := Follower.publish_count (s.follower x.follower) (s.newEstimate p x c r)
  unfold State.repliedRecord at ht ⊢
  generalize (s.follower x.follower).publish (s.newEstimate p x c r) = g at ht state count ⊢
  obtain ⟨hg, hc⟩ := ((g.settled (s.beyondTrust p x c r) s.row.state.following c.t4).keeps_ordered x.order r s.now).trusted ht
  rcases g.keeps_settled (s.beyondTrust p x c r) s.row.state.following c.t4 with k | ⟨h1, h2, h3, h4, h5⟩
  · exact absurd (state ▸ (k.trusted hg).1) hs
  · exact ⟨state ▸ h1, count ▸ h2, h3, h4, hc.trans (by rw [h5])⟩

end Replied

theorem RowState.following_iff {a : RowState} : a.following = true ↔ a = .locked ∨ a = .holdover := by
  cases a <;> simp [RowState.following]

/-- Settles O30: of all the moves of a record, stage 2 of a good Reply alone makes it Trusted. -/
theorem onlySettledRepliesMakeTrusted : Obligations.OnlySettledRepliesMakeTrusted := by
  intro s t h i ht hs
  obtain ⟨c, rest, hm, hq⟩ := step_recordMove h i
  generalize t.follower i = g at ht hm ⊢
  cases hm with
  | keeps k => exact absurd (k.trusted ht).1 hs
  | vacated k => exact absurd (k.state.symm.trans ht) nofun
  | enrolled => exact nomatch ht
  | retires => exact nomatch ht
  | published p received x cap r hx hi =>
    subst hi
    obtain ⟨hsettling, hcount, hrow, hbeyond, hzero⟩ := s.repliedRecord_trusted p x cap r ht hs
    have front := hq.resolve_right (by simp [Instr.comesFromOutside])
    refine ⟨p, received, rest, x, front, hx, rfl, hsettling, hcount, RowState.following_iff.mp hrow, hzero, ?_, ?_⟩
    · rw [State.repliedRecord_published]; rfl
    · rw [State.repliedRecord_published]
      exact Nat.le_of_not_lt (of_decide_eq_false hbeyond)

/-- Settles O31: of all the moves of a record that stays enrolled, publication alone touches the estimates, and it writes the other slot. -/
theorem estimatesChangeOnlyByPublication : Obligations.EstimatesChangeOnlyByPublication := by
  intro s t h i hs ht
  obtain ⟨c, rest, hm, hq⟩ := step_recordMove h i
  generalize t.follower i = g at ht hm ⊢
  cases hm with
  | keeps k => exact .inl ⟨k.slotA, k.slotB, k.selector⟩
  | vacated k => exact absurd k.state ht
  | enrolled port slot o p k kind hp hk hfree hi =>
    have := (State.findFollower_some s hi).1
    exact absurd (by simpa using this) hs
  | retires => exact .inl ⟨rfl, rfl, rfl⟩
  | published p received x cap r hx hi ha =>
    subst hi
    have front := hq.resolve_right (by simp [Instr.comesFromOutside])
    obtain ⟨hslotA, hslotB, hsel⟩ := s.repliedRecord_estimates p x cap r
    refine .inr ⟨p, received, rest, x, front, hx, rfl, ha, ?_, ?_⟩
    · rw [State.repliedRecord_published]; rfl
    · rw [hslotA, hslotB, hsel]
      cases he : (s.follower x.follower).selector with
      | a => simp [Follower.publish, he]
      | b => simp [Follower.publish, he]

end Sys2Proof.Machine

/-! PROOFS. Rack ports and drift fields: what each operation makes of one rack keeps its port and its drift fields sound (Chapters 5 and 10). -/

namespace Sys2Proof.Machine

/-! ## Ports -/

section Ports

variable {q : Port}

theorem Port.Sound.running (h : q.Sound) (ha : q.activity ≠ .idle) : q.state = .running := by
  by_contra hs
  exact ha (h.stopped hs).1

theorem Port.Sound.quietEnd_none (h : q.Sound) (ha : q.activity ≠ .quiet) : q.quietEnd = none := by
  cases hq : q.quietEnd with
  | none => rfl
  | some e => exact absurd (h.quiet.mpr (by simp [hq])) ha

theorem Port.Sound.exchange_none (h : q.Sound) (ha : q.activity ≠ .exchange) : q.exchange = none := by
  cases hq : q.exchange with
  | none => rfl
  | some x => exact absurd (h.exchange.mpr (by simp [hq])) ha

theorem Port.Sound.activity_of_exchange (h : q.Sound) {x : Exchange} (hx : q.exchange = some x) : q.activity = .exchange :=
  h.exchange.mpr (by simp [hx])

/-- A port at rest whose quiet window is not open. -/
theorem Port.Sound.rest_idle (h : q.Sound) (ha : q.activity ≠ .quiet) : (q.rest .idle).Sound where
  stopped hs := ⟨rfl, (h.stopped hs).2⟩
  exchange := by simp [Port.rest]
  quiet := by simp [Port.rest, h.quietEnd_none ha]
  announcing := nofun
  silent _ := rfl
  driving := nofun
  window := nofun
  probing := nofun
  notices := nofun
  budget := h.budget
  reload := h.reload

theorem Port.Sound.spent (h : q.Sound) : q.spent.Sound := by
  unfold Port.spent
  split
  · exact { h with budget := h.reload }
  · refine { h with budget := ?_ }
    have := h.budget
    dsimp only
    omega

/-- A crossed exchange leaves its port Quiet for the window (R96). -/
theorem Port.Sound.crossed (h : q.Sound) {x : Exchange} (hx : q.exchange = some x) (e : Nat) :
    ({ q.rest .quiet with quietEnd := some e } : Port).Sound where
  stopped hs := absurd (h.running (by simp [h.activity_of_exchange hx])) hs
  exchange := by simp [Port.rest]
  quiet := by simp [Port.rest]
  announcing := nofun
  silent _ := rfl
  driving := nofun
  window := nofun
  probing := nofun
  notices := nofun
  budget := h.budget
  reload := h.reload

theorem Port.Sound.announcePending (h : q.Sound) (hr : q.state = .running) (b : Bool) : ({ q with pendingAnnounce := b } : Port).Sound :=
  { h with stopped := fun hs => absurd hr hs }

/-- A port that has left Running (R77). -/
theorem Port.Sound.left (h : q.Sound) (after : PortState) :
    ({ q.rest .idle with state := after, pendingAnnounce := false, quietEnd := none } : Port).Sound where
  stopped _ := ⟨rfl, rfl⟩
  exchange := by simp [Port.rest]
  quiet := by simp [Port.rest]
  announcing := nofun
  silent _ := rfl
  driving := nofun
  window := nofun
  probing := nofun
  notices := nofun
  budget := h.budget
  reload := h.reload

/-- A port opened from Disabled or Halted (R76). -/
theorem Port.Sound.opened (h : q.Sound) (hs : q.state ≠ .running) :
    ({ q with state := .running, activity := .idle, pendingAnnounce := true } : Port).Sound := by
  have hidle : q.activity = .idle := (h.stopped hs).1
  exact { h with
    stopped := fun hr => absurd rfl hr
    exchange := hidle ▸ h.exchange
    quiet := hidle ▸ h.quiet
    announcing := nofun
    silent := fun _ => h.silent (.inl hidle) }

theorem Port.Sound.amend (h : q.Sound) (presence : Nat) (o : RackOperands) : (q.amend presence o).Sound := by
  have bounds := clampNat_bounds o.budgetReload.toNat (show 1 ≤ 255 by decide)
  exact { h with
    budget := newOr_of (P := fun b => 1 ≤ b ∧ b ≤ 255) bounds h.budget
    reload := newOr_of (P := fun b => 1 ≤ b ∧ b ≤ 255) bounds h.reload }

/-- A Running port that has begun an Announce (R84). -/
theorem Port.Sound.announcing' (h : q.Sound) (hr : q.state = .running) (hi : q.activity = .idle) (tr : Transmission) :
    ({ q with activity := .announcing, pendingAnnounce := false, transmitting := some tr } : Port).Sound where
  stopped hs := absurd hr hs
  exchange := by simp [h.exchange_none (by simp [hi])]
  quiet := by simp [h.quietEnd_none (by simp [hi])]
  announcing _ := rfl
  silent hs := by simp at hs
  driving x hx := by simp [h.exchange_none (by simp [hi])] at hx
  window x hx := by simp [h.exchange_none (by simp [hi])] at hx
  probing x hx := by simp [h.exchange_none (by simp [hi])] at hx
  notices x hx := by simp [h.exchange_none (by simp [hi])] at hx
  budget := h.budget
  reload := h.reload

/-- A port of which an exchange is in flight, with the exchange, its driver and its pending Announce written. -/
theorem Port.Sound.exchanging (h : q.Sound) (hr : q.state = .running) (hq : q.quietEnd = none) {x : Exchange}
    {tr : Option Transmission} {b : Bool} (sequence : Byte)
    (hd : tr.isSome = true ↔ x.phase ≠ .awaiting) (hw : x.phase = .awaiting → (x.windowEnd.isSome = true ↔ x.reply = none))
    (hp : x.phase = .probe → x.reply = none) (hn : x.notices.length ≤ 6) :
    ({ q with activity := .exchange, sequence := sequence, pendingAnnounce := b, exchange := some x, transmitting := tr } : Port).Sound where
  stopped hs := absurd hr hs
  exchange := by simp
  quiet := by simp [hq]
  announcing := nofun
  silent hs := by simp at hs
  driving _ hx := by cases hx; exact hd
  window _ hx := by cases hx; exact hw
  probing _ hx := by cases hx; exact hp
  notices _ hx := by cases hx; exact hn
  budget := h.budget
  reload := h.reload

end Ports

/-! ## Drift fields -/

section Drift

variable {d : Drift}

/-- The bounds of a counter and its reloads (R152). -/
structure Counter.Bounded (c : Counter) : Prop where
  reloads : 1 ≤ c.mainReload ∧ c.mainReload ≤ 127 ∧ c.prescaleReload ≤ 255
  values : 1 ≤ c.main ∧ c.main ≤ 127 ∧ c.prescale ≤ 255

theorem Counter.Bounded.reload {c : Counter} (h : c.Bounded) : c.reload.Bounded := ⟨h.reloads, h.reloads⟩

theorem Counter.Bounded.count {c : Counter} (h : c.Bounded) : c.count.Bounded := by
  obtain ⟨hr, hv⟩ := h
  unfold Counter.count
  split
  · exact ⟨hr, by dsimp only; omega⟩
  · split
    · exact ⟨hr, hr⟩
    · exact ⟨hr, by dsimp only; omega⟩

/-- The drift fields other than the counters. -/
structure Drift.FieldsSound (d : Drift) : Prop where
  acknowledged : d.warning = .none → d.acknowledged = false
  leanRate : d.leanRate ≤ d.excessRate
  leanOffset : d.leanOffset ≤ d.excessOffset

theorem Drift.sound_iff : d.Sound ↔ d.FieldsSound ∧ d.persistence.Bounded ∧ d.calm.Bounded :=
  ⟨fun h => ⟨⟨h.acknowledged, h.leanRate, h.leanOffset⟩, ⟨h.persistReload, h.persistence⟩, ⟨h.calmReload, h.calm⟩⟩,
    fun ⟨f, p, c⟩ => ⟨f.acknowledged, f.leanRate, f.leanOffset, p.reloads, c.reloads, p.values, c.values⟩⟩

theorem Drift.Sound.persistenceTaken (h : d.Sound) : d.persistenceTaken.Sound := by
  unfold Drift.persistenceTaken
  split
  · split
    · exact { h with acknowledged := fun _ => rfl }
    · exact { h with }
  · exact h

theorem Drift.Sound.calmTaken (h : d.Sound) : d.calmTaken.Sound := by
  unfold Drift.calmTaken
  split
  · split
    · exact { h with acknowledged := fun _ => rfl }
    · exact { h with }
  · exact h

theorem Drift.Sound.countBoundary (h : d.Sound) : d.countBoundary.Sound := by
  obtain ⟨f, p, c⟩ := Drift.sound_iff.mp h
  unfold Drift.countBoundary
  split
  · exact h
  · exact Drift.sound_iff.mpr ⟨{ f with }, p.reload, c.count⟩
  · exact Drift.sound_iff.mpr ⟨{ f with }, p.count, c.reload⟩
  · exact Drift.sound_iff.mpr ⟨{ f with }, p.count, c.reload⟩

theorem Drift.Sound.evaluate (h : d.Sound) (members : List Follower) : (d.evaluate members).Sound :=
  Drift.Sound.countBoundary { h with }

theorem Drift.Sound.reloadCounters (h : d.Sound) : d.reloadCounters.Sound := by
  obtain ⟨f, p, c⟩ := Drift.sound_iff.mp h
  exact Drift.sound_iff.mpr ⟨{ f with }, p.reload, c.reload⟩

theorem Drift.Sound.restarted (h : d.Sound) : d.restarted.Sound :=
  { h.persistenceTaken.calmTaken.reloadCounters with acknowledged := fun _ => rfl }

theorem Counter.Bounded.amend {c : Counter} (h : c.Bounded) (presence bit : Nat) (main prescale : Byte) :
    (c.amend presence bit main prescale).Bounded := by
  have bounds := clampNat_bounds main.toNat (show 1 ≤ 127 by decide)
  have main : 1 ≤ newOr presence bit (clampNat 1 127 main.toNat) c.mainReload ∧
      newOr presence bit (clampNat 1 127 main.toNat) c.mainReload ≤ 127 :=
    newOr_of (P := fun b => 1 ≤ b ∧ b ≤ 127) bounds ⟨h.reloads.1, h.reloads.2.1⟩
  have pre : newOr presence (bit + 1) prescale.toNat c.prescaleReload ≤ 255 :=
    newOr_of (P := fun b => b ≤ 255) (Nat.le_of_lt_succ prescale.isLt) h.reloads.2.2
  exact ⟨⟨main.1, main.2, pre⟩, h.values⟩

theorem Drift.Sound.amend (h : d.Sound) (presence : Nat) (o : RackOperands) : (d.amend presence o).Sound := by
  obtain ⟨f, p, c⟩ := Drift.sound_iff.mp h
  exact Drift.sound_iff.mpr
    ⟨⟨f.acknowledged, Nat.min_le_right _ _, Nat.min_le_right _ _⟩, p.amend presence 16 _ _, c.amend presence 18 _ _⟩

end Drift

end Sys2Proof.Machine

/-! PROOFS. Rack ports, drift fields and estimates stay sound at every step (Chapters 5, 6 and 10). -/

namespace Sys2Proof.Machine

/-! ## Every rack kept sound -/

/-- What every change of a rack record keeps. -/
structure Rack.Keeps (r r' : Rack) : Prop where
  port : r.port.Sound → r'.port.Sound
  drift : r.drift.Sound → r'.drift.Sound
  ceiling : r.port.delayCeiling ≤ 1000000 → r'.port.delayCeiling ≤ 1000000

/-- Every rack is kept, the ports being sound. -/
def State.RacksKeep (s t : State) : Prop := ∀ p, (s.rack p).Keeps (t.rack p)

section Racks

variable {s t u : State} {r r' : Rack}

theorem Rack.Keeps.refl (r : Rack) : r.Keeps r := ⟨id, id, id⟩

theorem Rack.Keeps.trans {r'' : Rack} (h : r.Keeps r') (k : r'.Keeps r'') : r.Keeps r'' :=
  ⟨k.port ∘ h.port, k.drift ∘ h.drift, k.ceiling ∘ h.ceiling⟩

/-- The port alone is written, and its delay ceiling kept. -/
theorem Rack.Keeps.of_port {q : Port} (h : r.port.Sound → q.Sound) (hc : q.delayCeiling = r.port.delayCeiling := by exact rfl) :
    r.Keeps { r with port := q } := ⟨h, id, fun h => hc ▸ h⟩

theorem Rack.Keeps.of_drift {d : Drift} (h : r.drift.Sound → d.Sound) : r.Keeps { r with drift := d } := ⟨id, h, id⟩

theorem State.RacksKeep.of_eq (h : t.racks = s.racks) : s.RacksKeep t := fun p => by rw [State.rack_congr h]; exact .refl _

theorem State.RacksKeep.trans (h : s.RacksKeep t) (k : t.RacksKeep u) : s.RacksKeep u := fun p => (h p).trans (k p)

theorem State.RacksKeep.after (h : t.RacksKeep u) (e : t.racks = s.racks) : s.RacksKeep u := (of_eq e).trans h

theorem State.RacksKeep.last (h : s.RacksKeep t) (e : u.racks = t.racks) : s.RacksKeep u := h.trans (of_eq e)

theorem State.RacksKeep.ite {d : Prop} [Decidable d] (h : s.RacksKeep t) (k : s.RacksKeep u) : s.RacksKeep (if d then t else u) := by
  split
  · exact h
  · exact k

theorem State.RacksKeep.setPort {p : RackId} {q : Port} (h : (s.port p).Sound → q.Sound)
    (hc : q.delayCeiling = (s.port p).delayCeiling := by exact rfl) : s.RacksKeep (s.setPort p q) := by
  intro k
  rw [State.rack_setPort]
  split
  · rename_i e
    subst e
    exact .of_port h hc
  · exact .refl _

theorem State.RacksKeep.setDrift {p : RackId} {d : Drift} (h : (s.rack p).drift.Sound → d.Sound) : s.RacksKeep (s.setDrift p d) := by
  intro k
  rw [State.rack_setDrift]
  split
  · rename_i e
    subst e
    exact .of_drift h
  · exact .refl _

theorem Port.Sound.delayCeiling_spent (q : Port) : q.spent.delayCeiling = q.delayCeiling := by unfold Port.spent; split <;> rfl

variable (s)

theorem State.decrementBudget_keeps (p : RackId) : s.RacksKeep (s.decrementBudget p) := by
  intro k
  have port := s.port_decrementBudget p k
  have frame : { (s.decrementBudget p).rack k with port := (s.rack k).port } = s.rack k := by
    unfold State.decrementBudget
    dsimp only
    split
    · rw [State.raiseRack_rack, State.rack_setPort]; split <;> rfl
    · rw [State.rack_setPort]; split <;> rfl
  have drift : ((s.decrementBudget p).rack k).drift = (s.rack k).drift := (congrArg Rack.drift frame :)
  refine ⟨fun h => ?_, fun h => drift ▸ h, fun h => ?_⟩
  · show ((s.decrementBudget p).port k).Sound
    rw [port]
    split
    · exact Port.Sound.spent h
    · exact h
  · show ((s.decrementBudget p).port k).delayCeiling ≤ _
    rw [port]
    split
    · rw [Port.Sound.delayCeiling_spent]; exact h
    · exact h

theorem State.endExchange_keeps (p : RackId) : s.RacksKeep (s.endExchange p .idle) := by
  intro k
  have drift : ((s.endExchange p .idle).rack k).drift = (s.rack k).drift := (congrArg Rack.drift (s.endExchange_rack p k .idle) :)
  have port := s.port_endExchange p k .idle
  refine ⟨fun h => ?_, fun h => drift ▸ h, fun h => ?_⟩
  · show ((s.endExchange p .idle).port k).Sound
    rw [port]
    split
    · rename_i hx
      obtain ⟨rfl, hx⟩ := hx
      have busy : (s.port p).activity = .exchange := h.exchange.mpr hx
      exact Port.Sound.rest_idle h (by simp [busy])
    · exact h
  · show ((s.endExchange p .idle).port k).delayCeiling ≤ _
    rw [port]
    split <;> exact h

theorem Rack.keeps_crossed (r : Rack) (elapsed : Nat) : r.Keeps (r.crossed elapsed) := by
  unfold Rack.crossed
  split
  · rename_i hx
    obtain ⟨x, hx⟩ := Option.isSome_iff_exists.mp hx
    exact .of_port fun h => h.crossed hx _
  · exact .refl r

theorem Rack.keeps_setAnnounce (r : Rack) : r.Keeps r.setAnnounce := by
  unfold Rack.setAnnounce
  split
  · exact .of_port fun h => h.announcePending ‹_› true
  · exact .refl r

theorem State.crossAll_keeps : s.RacksKeep s.crossAll := fun p => by
  rw [State.rack_crossAll]
  exact (Rack.keeps_crossed _ _).trans (Rack.keeps_setAnnounce _)

theorem State.deliverBoundary_keeps : s.RacksKeep s.deliverBoundary := fun p => by
  rw [State.rack_deliverBoundary]
  unfold Rack.evaluated
  split
  · exact .refl _
  · exact .of_drift fun h => h.persistenceTaken.calmTaken.evaluate _

theorem State.deliverStep_keeps (n : Nat) : s.RacksKeep (s.deliverStep n) := by
  have crossed : s.RacksKeep ({ s with boundaries := s.boundaries + n } : State).crossAll := .after (State.crossAll_keeps _) rfl
  unfold State.deliverStep State.epochAndBoundary
  dsimp only
  generalize ({ s with boundaries := s.boundaries + n } : State).crossAll = t at crossed ⊢
  have chosen : s.RacksKeep t.choose := crossed.last rfl
  refine .ite (.ite ?_ ?_) (crossed.last rfl)
  · exact .last (chosen.trans (State.deliverBoundary_keeps _)) (State.rowEpochs_racks _)
  · exact .trans (chosen.last (u := t.choose.rowEpochs) rfl) (State.deliverBoundary_keeps _)

theorem State.usedMark_keeps (e : Int) (v : Nat) : s.RacksKeep (s.usedMark e v) :=
  .ite (.after (State.deliverStep_keeps _ _) rfl) (.of_eq rfl)

theorem State.inUseMark_keeps (r : Reference) (e : Int) (v : Nat) : s.RacksKeep (s.inUseMark r e v) :=
  .ite (.of_eq rfl) (.ite (.ite (.of_eq (State.faultReference_racks _ _)) (.of_eq rfl)) (.after (State.usedMark_keeps _ _ _) rfl))

theorem State.judgeMark_keeps (r : Reference) (m : Mark) (c : Bool) : s.RacksKeep (s.judgeMark r m c) :=
  .ite (.ite (.after (State.inUseMark_keeps _ _ _ _) rfl) (.of_eq (State.designate_racks _)))
    (.of_eq (State.inconsistentMark_racks _ _))

theorem State.linkMark_keeps (r : Reference) (a : Nat) (m : Option MarkFields) : s.RacksKeep (s.linkMark r a m) := by
  unfold State.linkMark
  split
  · exact .of_eq (State.inconsistentMark_racks _ _)
  · exact s.judgeMark_keeps _ _ _

theorem State.missMark_racks (r : Reference) : (s.missMark r).racks = s.racks := by
  dsimp only [State.missMark]
  split <;> simp

theorem State.chargeFault_keeps (p : RackId) (i : FollowerId) (k : FaultKind) (attempt : Bool) :
    s.RacksKeep (s.chargeFault p i k attempt) := by
  unfold State.chargeFault
  refine .after (State.decrementBudget_keeps _ p) ?_
  rw [State.countFault_racks]
  split
  · exact State.addAttempt_racks _ _
  · rfl

theorem State.faultExchange_keeps (p : RackId) (k : FaultKind) (attempt : Bool) : s.RacksKeep (s.faultExchange p k attempt) := by
  cases hx : (s.port p).exchange with
  | none => exact .of_eq (by simp only [State.faultExchange, hx])
  | some x =>
    rw [State.faultExchange_eq s k attempt hx]
    exact (s.chargeFault_keeps _ _ _ _).trans (State.endExchange_keeps _ p)

theorem State.leaveRunning_keeps (p : RackId) (after : PortState) : s.RacksKeep (s.leaveRunning p after) :=
  (s.endExchange_keeps p).trans (.setPort fun h => h.left after)

theorem State.amendEnabled_keeps (p : RackId) (enabled : Option Bool) : s.RacksKeep (s.amendEnabled p enabled) := by
  unfold State.amendEnabled State.enablePort State.disablePort
  dsimp only
  split
  · split
    · exact .of_eq rfl
    · exact .setPort fun h => h.opened ‹_›
  · split
    · exact s.leaveRunning_keeps p _
    · rename_i hs
      exact .setPort fun h => { h with stopped := fun _ => h.stopped (by simp [hs]) }
    · exact .of_eq rfl
  · exact .of_eq rfl

theorem State.takeExpiries_keeps (p : RackId) : s.RacksKeep (s.takeExpiries p) := fun k => by
  rw [State.rack_takeExpiries]
  split
  · rename_i e
    subst e
    exact .of_drift fun h => h.persistenceTaken.calmTaken
  · exact .refl _

theorem State.amendDrift_keeps (p : RackId) (presence : Nat) (o : RackOperands) : s.RacksKeep (s.amendDrift p presence o) := by
  unfold State.amendDrift
  split
  · exact (s.takeExpiries_keeps p).trans (.setDrift fun h => (h.amend presence o).reloadCounters)
  · exact .of_eq rfl

theorem Rack.keeps_amend (r : Rack) (presence : Nat) (o : RackOperands) : r.Keeps (r.amend presence o) where
  port h := h.amend presence o
  drift h := h
  ceiling h := newOr_of (P := fun v => v ≤ 1000000) (clampNat_bounds _ (by decide)).2 h

theorem State.restartRow_keeps : s.RacksKeep s.restartRow := by
  unfold State.restartRow
  dsimp only
  have crossed : s.RacksKeep (({ s with row := s.row.restarted } : State).enterRowState .acquiring).crossAll :=
    .after (State.crossAll_keeps _) rfl
  generalize (({ s with row := s.row.restarted } : State).enterRowState .acquiring).crossAll = t at crossed ⊢
  have voided : s.RacksKeep t.rowEpochs.voidFences := crossed.last rfl
  refine voided.trans fun p => ?_
  rw [State.rack_driftRestarts]
  exact .of_drift fun h => h.restarted

end Racks

/-! ## The exchange in flight -/

/-- The exchange in flight, with its driver, written. -/
theorem Port.Sound.setExchange {q : Port} (h : q.Sound) {x y : Exchange} (hx : q.exchange = some x) {tr : Option Transmission}
    (hd : tr.isSome = true ↔ y.phase ≠ .awaiting) (hw : y.phase = .awaiting → (y.windowEnd.isSome = true ↔ y.reply = none))
    (hp : y.phase = .probe → y.reply = none) (hn : y.notices.length ≤ 6) :
    ({ q with exchange := some y, transmitting := tr } : Port).Sound := by
  have busy := h.activity_of_exchange hx
  have e : ({ q with exchange := some y, transmitting := tr } : Port) =
      { q with activity := .exchange, sequence := q.sequence, pendingAnnounce := q.pendingAnnounce, exchange := some y, transmitting := tr } := by
    rw [← busy]
  rw [e]
  exact h.exchanging (h.running (by simp [busy])) (h.quietEnd_none (by simp [busy])) q.sequence hd hw hp hn

theorem parseAsks_length {n : Nat} {l : List Byte} {asks : List Ask} (h : parseAsks n l = some asks) : asks.length = n := by
  induction n generalizing l asks with
  | zero => cases h; rfl
  | succ n ih =>
    unfold parseAsks at h
    split at h
    · rename_i heq
      exact absurd heq (Nat.succ_ne_zero n)
    · rename_i kind tag rest heq
      cases heq
      dsimp only at h
      split at h
      · rename_i ha hr
        cases h
        simp [ih hr]
      · cases h
    · cases h

/-- A Reply has three asks at most (R82, R171). -/
theorem parseReply_asks {slot sequence : Byte} {received : List Byte} {r : Reply} (h : parseReply slot sequence received = .ok r) :
    r.asks.length ≤ 3 := by
  unfold parseReply at h
  split at h
  · dsimp only at h
    repeat' split at h
    all_goals cases h
    rename_i hfields
    unfold parseReplyFields at hfields
    dsimp only at hfields
    split at hfields
    · cases hfields
    · rename_i hcount
      split at hfields
      · rename_i hasks
        cases hfields
        dsimp only
        rw [parseAsks_length hasks]
        omega
      · cases hfields
  · cases h

section Verdict

variable {s : State} {p : RackId} {x : Exchange} {c : Capture} {r : Reply}

theorem State.sendVerdict_keeps_racks (hx : (s.port p).exchange = some x) {answers : List Notice} (hn : answers.length ≤ 6) :
    s.RacksKeep (s.sendVerdict p x answers) := by
  refine .setPort fun h => h.setExchange hx (by simp [State.transmission]) (fun e => nomatch e) (fun e => nomatch e) ?_
  simp only [List.length_append, List.length_map, State.reportable]
  have := List.length_take_le (6 - answers.length) (s.fences.list.filter fun f => f.follower == x.follower && f.state != .waiting)
  omega

theorem State.restartedAnnounce_keeps (b : Bool) : s.RacksKeep (s.restartedAnnounce p b) := fun k => by
  rw [State.rack_restartedAnnounce]
  split
  · exact Rack.keeps_setAnnounce _
  · exact .refl _

theorem State.afterStages_racks : (s.afterStages p x c r).racks = (s.restartedAnnounce p r.restarted).racks := by
  unfold State.afterStages
  simp

theorem State.restartedAnnounce_exchange (b : Bool) : ((s.restartedAnnounce p b).port p).exchange = (s.port p).exchange := by
  rw [State.port_restartedAnnounce]

theorem State.processReply_keeps (hx : (s.port p).exchange = some x) (hasks : r.asks.length ≤ 3) :
    s.RacksKeep (s.processReply p x c r) := by
  have announced : s.RacksKeep (s.restartedAnnounce p r.restarted) := s.restartedAnnounce_keeps r.restarted
  have hx' : ((s.restartedAnnounce p r.restarted).port p).exchange = some x := by rw [State.restartedAnnounce_exchange, hx]
  have send {t : State} (ht : t.racks = (s.restartedAnnounce p r.restarted).racks) {answers : List Notice}
      (hn : answers.length = r.asks.length) : s.RacksKeep (t.clearBeforeVerdict.sendVerdict p x answers) := by
    have hr : t.clearBeforeVerdict.racks = (s.restartedAnnounce p r.restarted).racks := (State.clearBeforeVerdict_racks t).trans ht
    refine (announced.last hr).trans (State.sendVerdict_keeps_racks ?_ (by omega))
    rw [State.port_congr hr, hx']
  by_cases ha : (s.follower x.follower).state.active = true
  · rw [State.processReply_of_active ha]
    exact send ((State.answerAsks_racks _ _ _ _ _ _).trans State.afterStages_racks) (State.answerAsks_length _ _ _ _ _ _)
  · by_cases hm : (s.follower x.follower).state = .muted
    · rw [State.processReply_of_muted hm]
      exact send (State.orderStage_racks _ _ _ _) (List.length_map _)
    · rw [State.processReply_of_leaving (FollowerState.leaving_of ha hm)]
      exact announced.trans (State.endExchange_keeps _ p)

end Verdict

/-! ## Every command -/

section Commands

variable {s t : State} {c : Instr}

theorem Port.idleRunning_iff {q : Port} : q.idleRunning = true ↔ q.state = .running ∧ q.activity = .idle := by
  simp [Port.idleRunning]

theorem Port.powerOn_sound : Port.powerOn.Sound where
  stopped _ := ⟨rfl, rfl⟩
  exchange := by simp [Port.powerOn]
  quiet := by simp [Port.powerOn]
  announcing := nofun
  silent _ := rfl
  driving := nofun
  window := nofun
  probing := nofun
  notices := nofun
  budget := by decide
  reload := by decide

theorem Drift.powerOn_sound : Drift.powerOn.Sound where
  acknowledged _ := rfl
  leanRate := by decide
  leanOffset := by decide
  persistReload := by decide
  calmReload := by decide
  persistence := by decide
  calm := by decide

theorem State.reset_rack (p : RackId) : State.reset.rack p = .powerOn := by simp [State.rack, State.reset]

theorem Rack.keeps_powerOn (r : Rack) : r.Keeps .powerOn := ⟨fun _ => Port.powerOn_sound, fun _ => Drift.powerOn_sound, fun _ => by decide⟩

theorem Effect.racksKeep (h : Effect s c t) : s.RacksKeep t := by
  cases h with
  | reset =>
    intro p
    have e : (s.rack p).Keeps (State.reset.rack p) := by rw [State.reset_rack]; exact Rack.keeps_powerOn _
    exact e
  | warmUpEnd => exact .of_eq (by simp [State.endWarmUp])
  | linkMark => exact .after (State.linkMark_keeps _ _ _ _) rfl
  | pulseMark => exact .after (State.judgeMark_keeps s.choose _ _ _) rfl
  | missMark r => exact .of_eq (s.missMark_racks r)
  | boundary => exact .after (State.deliverBoundary_keeps _) rfl
  | persistence p =>
    intro k
    rw [State.rack_takePersistenceExpiry]
    split
    · rename_i e; subst e; exact .of_drift fun h => h.persistenceTaken
    · exact .refl _
  | calm p =>
    intro k
    rw [State.rack_takeCalmExpiry]
    split
    · rename_i e; subst e; exact .of_drift fun h => h.calmTaken
    · exact .refl _
  | announce p h =>
    simp only [State.announceDue, Bool.and_eq_true, Port.idleRunning_iff] at h
    exact .setPort fun q => q.announcing' h.1.1 h.1.2 _
  | announced p h =>
    refine .setPort fun q => ?_
    have none : (s.port p).exchange = none := q.exchange_none (by simp [h])
    have rests : { s.port p with activity := .idle, transmitting := .none } = (s.port p).rest .idle := by simp [Port.rest, none]
    exact rests ▸ q.rest_idle (by simp [h])
  | exchangeStart p i h =>
    simp only [State.exchangeDue, Bool.and_eq_true, Port.idleRunning_iff] at h
    refine .after (t := (s.setFollower i { s.follower i with
      nextDue := s.nextDueAfter (s.follower i) (s.rack p).drift.state }).choose) (.setPort fun q => ?_) rfl
    exact q.exchanging h.1.1.1 (q.quietEnd_none (by simp [show (s.port p).activity = .idle from h.1.1.2])) _
      (by simp [State.transmission]) (fun e => nomatch e) (fun _ => rfl) (Nat.zero_le _)
  | probeEnd p x hx hp =>
    exact .setPort fun q => q.setExchange hx (by simp) (fun _ => by simp [q.probing x hx hp]) (fun e => nomatch e) (q.notices x hx)
  | announceFails p h =>
    exact .trans (.setPort fun q => q.rest_idle (by simp [h])) (State.decrementBudget_keeps _ p)
  | echoFault p x attempt => exact s.faultExchange_keeps p .echo attempt
  | timeout p x => exact s.faultExchange_keeps p .timeout true
  | badReply p received x cap k => exact s.faultExchange_keeps p k true
  | replyArrival p x hx hp hr =>
    refine .setPort fun q => ?_
    have driving : (s.port p).transmitting.isSome = true ↔ x.phase ≠ .awaiting := q.driving x hx
    exact q.setExchange hx driving (fun _ => by simp) (fun e => by simp [hp] at e) (q.notices x hx)
  | goodReply p received x cap r hx hp hr hparse => exact State.processReply_keeps hx (parseReply_asks hparse)
  | verdictEnd p x => exact .after (State.endExchange_keeps _ p) rfl
  | unsolicited p =>
    exact .trans (.setPort (q := { s.port p with unsolicited := (s.port p).unsolicited + 1 }) fun q => { q with })
      (State.decrementBudget_keeps _ p)
  | quietEnd p h =>
    simp only [State.quietDue, Bool.and_eq_true, beq_iff_eq] at h
    refine .setPort fun q => ?_
    have hx := q.exchange_none (by simp [h.1])
    exact { q with
      stopped := fun hs => ⟨rfl, (q.stopped hs).2⟩
      exchange := by simp [hx]
      quiet := by simp
      announcing := nofun
      silent := fun _ => q.silent (.inr h.1) }
  | guardTrip p => exact .last (s.leaveRunning_keeps p .halted) rfl
  | amendRack hc p presence o =>
    have amended : s.RacksKeep (s.setRack p ((s.rack p).amend presence o)) := fun k => by
      rw [State.rack_setRack]
      split
      · rename_i e; subst e; exact Rack.keeps_amend _ _ _
      · exact .refl _
    exact ((amended.trans (State.amendDrift_keeps _ _ _ _)).trans (State.amendEnabled_keeps _ _ _)).last (State.answer_racks _ _ _)
  | ackWarning b p hw =>
    refine .last (.setDrift fun d => ?_) (State.answer_racks _ _ _)
    exact { d with acknowledged := fun e => absurd e hw }
  | amendRow presence o => exact .of_eq (by simp [State.amendRow, State.amendFences]; split <;> simp)
  | restartRow => exact s.restartRow_keeps.last (State.answer_racks _ _ _)
  | _ => exact .of_eq (by simp)

end Commands

end Sys2Proof.Machine

/-! PROOFS. The drift fields and the estimate slots at every step (R3, R5, R100, R105, R148, R152). -/

namespace Sys2Proof.Machine

/-- Settles O59: every effect keeps the drift fields of every rack sound. -/
theorem driftFieldsStaySound : Obligations.DriftFieldsStaySound := by
  intro s t hs h
  refine step_keeps (P := State.DriftHolds) ?_ ?_ ?_ hs h
  · intro s t heq hs p
    exact heq.rack p ▸ hs p
  · intro s hs p
    exact hs p
  · intro s t c he hs p
    exact (he.racksKeep p).drift (hs p)

/-! ## The range of a new estimate -/

/-- A smoothed rate lies between the old rate and the raw one (R105). -/
theorem smoothedRate_bounds {m old raw : Int} (shift : Nat) (ho : -m ≤ old ∧ old ≤ m) (hr : -m ≤ raw ∧ raw ≤ m) :
    -m ≤ smoothedRate old raw shift ∧ smoothedRate old raw shift ≤ m := by
  have pow : 1 ≤ ((2 ^ shift : Nat) : Int) := by exact_mod_cast Nat.one_le_two_pow
  unfold smoothedRate floorDiv
  generalize ((2 ^ shift : Nat) : Int) = d at pow ⊢
  rcases le_total old raw with hle | hle
  · have low : 0 ≤ (raw - old) / d := Int.ediv_nonneg (by omega) (by omega)
    have high : (raw - old) / d ≤ raw - old := Int.ediv_le_self _ (by omega)
    omega
  · have low : raw - old ≤ (raw - old) / d := (Int.le_ediv_iff_mul_le (by omega)).mpr (by nlinarith)
    have high : (raw - old) / d ≤ 0 := Int.ediv_nonpos_of_nonpos_of_neg (by omega) (by omega)
    omega

theorem Estimate.empty_inRange : Estimate.empty.InRange := by
  constructor <;> decide

/-- Both estimate slots of a record are in range. -/
def Follower.InRange (f : Follower) : Prop := f.slotA.InRange ∧ f.slotB.InRange

theorem Follower.InRange.published {f : Follower} (h : f.InRange) : f.published.InRange := by
  unfold Follower.published
  split
  · exact h.1
  · exact h.2

theorem Follower.InRange.publish {f : Follower} (h : f.InRange) {e : Estimate} (he : e.InRange) :
    (f.publish e).slotA.InRange ∧ (f.publish e).slotB.InRange := by
  unfold Follower.publish
  split
  · exact ⟨h.1, he⟩
  · exact ⟨he, h.2⟩

theorem Follower.oldRate_bounds {f : Follower} (h : f.InRange) : -rateMax ≤ f.oldRate ∧ f.oldRate ≤ rateMax := by
  unfold Follower.oldRate
  split
  · exact h.published.rate
  · decide

theorem Follower.newRate_bounds {f : Follower} (h : f.InRange) (theta : Int) (restarted : Bool) (t4 : Nat) :
    -rateMax ≤ f.newRate theta restarted t4 ∧ f.newRate theta restarted t4 ≤ rateMax := by
  unfold Follower.newRate
  split
  · exact smoothedRate_bounds _ (Follower.oldRate_bounds h) (clampMag_le _ _ (by decide))
  · exact Follower.oldRate_bounds h

theorem publishedU_le (c : Capture) (delay baseError : Nat) : publishedU c delay baseError ≤ uMax := by
  unfold publishedU
  split <;> first | exact saturateU_le _ | exact le_refl _

/-- An exchange that passes the checks has a delay within the ceiling (R87). -/
theorem Timestamps.delay_le {x : Timestamps} {ceiling : Nat} (h : x.fault ceiling = none) : x.delay.toNat ≤ ceiling := by
  unfold Timestamps.fault at h
  split at h
  · simp at h
  · split at h
    · simp at h
    · omega

theorem Follower.estimate_inRange {f : Follower} (h : f.InRange) {q : Port} {x : Timestamps} (hf : x.fault q.delayCeiling = none)
    (hq : q.delayCeiling ≤ 1000000) (c : Capture) (restarted : Bool) : (f.estimate q x c restarted).InRange where
  theta := clampMag_le _ _ (by decide)
  rate := Follower.newRate_bounds h _ _ _
  delay := (Timestamps.delay_le hf).trans hq
  uPub := publishedU_le _ _ _

/-! ## Every slot of every record -/

variable {s t : State} {i : FollowerId} {c : Instr}

theorem State.RecordMove.inRange {g : Follower} (h : s.RecordMove i c g) (hs : s.EstimatesHold) : g.InRange := by
  cases h with
  | keeps h => exact ⟨h.slotA ▸ (hs.slots i).1, h.slotB ▸ (hs.slots i).2⟩
  | vacated h => exact ⟨h.slotA ▸ Estimate.empty_inRange, h.slotB ▸ Estimate.empty_inRange⟩
  | enrolled => exact ⟨Estimate.empty_inRange, Estimate.empty_inRange⟩
  | retires => exact hs.slots i
  | published p received x cap r hx hi ha hf =>
    subst hi
    obtain ⟨ea, eb, -⟩ := s.repliedRecord_estimates p x cap r
    have range : (s.newEstimate p x cap r).InRange := Follower.estimate_inRange (hs.slots x.follower) hf (hs.ceilings p) _ _
    have slots := Follower.InRange.publish (hs.slots x.follower) range
    exact ⟨ea ▸ slots.1, eb ▸ slots.2⟩

/-- Settles O56: the slots follow the records' moves, the delay ceilings the racks'. -/
theorem estimatesStayInRange : Obligations.EstimatesStayInRange := by
  intro s t hs h
  refine step_keeps (P := State.EstimatesHold) ?_ ?_ ?_ hs h
  · intro s t heq hs
    exact ⟨fun i => heq.follower i ▸ hs.slots i, fun p => heq.port p ▸ hs.ceilings p⟩
  · intro s hs
    exact ⟨hs.slots, hs.ceilings⟩
  · intro s t c he hs
    exact ⟨fun i => he.recordMove.inRange hs, fun p => (he.racksKeep p).ceiling (hs.ceilings p)⟩

end Sys2Proof.Machine

/-! PROOFS. The exchanges in flight and the records they address, at every step (R60, R61, R78). -/

namespace Sys2Proof.Machine

/-! ## Ending exchanges -/

/-- The record that the exchange in flight on a port addresses. -/
def State.addressee (s : State) (p : RackId) : Option FollowerId := (s.port p).exchange.map (·.follower)

/-- The record stays on its port, and becomes or leaves neither Vacant nor Retiring. -/
structure Follower.Stands (f g : Follower) : Prop where
  port : g.port = f.port
  vacant : g.state = .vacant ↔ f.state = .vacant
  retiring : g.state = .retiring ↔ f.state = .retiring

theorem Follower.Keeps.stands {f g : Follower} (h : f.Keeps g) : f.Stands g := ⟨h.port, h.vacant, h.retiring⟩

theorem Follower.Stands.trans {f g k : Follower} (a : f.Stands g) (b : g.Stands k) : f.Stands k :=
  ⟨b.port.trans a.port, b.vacant.trans a.vacant, b.retiring.trans a.retiring⟩

/-- The exchanges in flight on the ports `l` end, and no other begins or ends: a Retiring record that one of them addressed becomes Vacant, every other record stands. -/
structure State.Ends (l : List RackId) (s t : State) : Prop where
  addressee : ∀ p, t.addressee p = if p ∈ l then none else s.addressee p
  gone : ∀ i, s.goneBy l i = true → (t.follower i).state = .vacant
  stands : ∀ i, s.goneBy l i = false → (s.follower i).Stands (t.follower i)

section Ends

variable {s t u : State} {l : List RackId} {p : RackId} {i : FollowerId}

theorem State.goneBy_iff : s.goneBy l i = true ↔ (s.follower i).state = .retiring ∧ ∃ p ∈ l, s.addressee p = some i := by
  simp [State.goneBy, State.addressedOn, State.addressee, Option.any_eq_true, Option.map_eq_some_iff]

theorem State.goneBy_nil : s.goneBy [] i = false := by simp [State.goneBy, State.addressedOn]

theorem State.Ends.of_stands (hp : ∀ p, t.addressee p = s.addressee p) (hf : ∀ i, (s.follower i).Stands (t.follower i)) :
    State.Ends [] s t :=
  ⟨fun p => by simp [hp p], fun i h => by simp [State.goneBy_nil] at h, fun i _ => hf i⟩

theorem State.addressee_congr (h : t.racks = s.racks) (p : RackId) : t.addressee p = s.addressee p := by
  rw [State.addressee, State.port_congr h]
  rfl

/-- Writes that leave every record and every rack as they are. -/
theorem State.Ends.of_eq (hr : t.racks = s.racks) (hf : t.followers = s.followers) : State.Ends [] s t :=
  .of_stands (State.addressee_congr hr) fun i => by simp only [State.follower, hf]; exact ⟨rfl, .rfl, .rfl⟩

theorem State.Ends.goneBy (h : State.Ends [] s t) (l : List RackId) (i : FollowerId) : t.goneBy l i = s.goneBy l i := by
  rw [Bool.eq_iff_iff, State.goneBy_iff, State.goneBy_iff, (h.stands i State.goneBy_nil).retiring]
  simp [h.addressee]

/-- Records and exchanges that stand, and then the exchanges that end. -/
theorem State.Ends.after (h : State.Ends [] s t) (k : State.Ends l t u) : State.Ends l s u where
  addressee p := by simp [k.addressee p, h.addressee p]
  gone i hi := k.gone i ((h.goneBy l i).trans hi)
  stands i hi := (h.stands i State.goneBy_nil).trans (k.stands i ((h.goneBy l i).trans hi))

/-- Exchanges that end, and then records and exchanges that stand. -/
theorem State.Ends.then (h : State.Ends l s t) (k : State.Ends [] t u) : State.Ends l s u where
  addressee p := by simp [k.addressee p, h.addressee p]
  gone i hi := (k.stands i State.goneBy_nil).vacant.mpr (h.gone i hi)
  stands i hi := (h.stands i hi).trans (k.stands i State.goneBy_nil)

theorem State.Ends.refl : State.Ends [] s s := .of_eq rfl rfl

/-- One port written, its exchange still addressing the same record. -/
theorem State.Ends.setPort {q : Port} (h : q.exchange.map (·.follower) = s.addressee p) : State.Ends [] s (s.setPort p q) := by
  refine .of_stands (fun k => ?_) fun i => ⟨rfl, .rfl, .rfl⟩
  rw [State.addressee, State.port_setPort]
  split
  · rename_i e
    exact e ▸ h
  · rfl

/-- One record written. -/
theorem State.Ends.setFollower {g : Follower} (h : (s.follower i).Stands g) : State.Ends [] s (s.setFollower i g) := by
  refine .of_stands (fun k => rfl) fun j => ?_
  rw [State.follower_setFollower]
  split
  · rename_i e
    exact e ▸ h
  · exact ⟨rfl, .rfl, .rfl⟩

/-- The racks written, but no port. -/
theorem State.Ends.of_ports (hp : ∀ p, t.port p = s.port p) (hf : t.followers = s.followers) : State.Ends [] s t :=
  .of_stands (fun p => by rw [State.addressee, hp p]; rfl) fun i => by simp only [State.follower, hf]; exact ⟨rfl, .rfl, .rfl⟩

variable (s)

theorem State.decrementBudget_ends (p : RackId) : State.Ends [] s (s.decrementBudget p) := by
  refine .of_stands (fun k => ?_) fun i => by rw [State.follower_decrementBudget]; exact ⟨rfl, .rfl, .rfl⟩
  rw [State.addressee, State.port_decrementBudget]
  split
  · rw [Port.spent_exchange]; rfl
  · rfl

theorem State.endExchange_ends (p : RackId) (a : Activity) : State.Ends [p] s (s.endExchange p a) where
  addressee k := by
    rw [State.addressee, State.port_endExchange]
    by_cases e : p = k
    · subst e
      cases h : (s.port p).exchange <;> simp [Port.rest, h]
    · simp [e, Ne.symm e, State.addressee]
  gone i hi := by rw [State.endExchange_follower, if_pos hi]; rfl
  stands i hi := by
    rw [State.endExchange_follower, if_neg (by simp [hi])]
    exact ⟨rfl, .rfl, .rfl⟩

theorem State.crossAll_ends : State.Ends allRacks s s.crossAll where
  addressee p := by
    rw [State.addressee, State.port, State.rack_crossAll, Rack.setAnnounce_eq, if_pos (mem_allRacks p)]
    unfold Rack.crossed
    cases h : (s.rack p).port.exchange <;> simp [Port.rest, h]
  gone i hi := by rw [State.follower_crossAll, if_pos hi]; rfl
  stands i hi := by
    rw [State.follower_crossAll, if_neg (by simp [hi])]
    exact ⟨rfl, .rfl, .rfl⟩

theorem State.rowEpochs_ends : State.Ends [] s s.rowEpochs :=
  .of_stands (State.addressee_congr (State.rowEpochs_racks s)) fun i => by
    rw [State.follower_rowEpochs]; exact (Follower.keeps_rowEpoch _ _).stands

theorem State.port_deliverBoundary (p : RackId) : s.deliverBoundary.port p = s.port p := by
  unfold State.port
  rw [State.rack_deliverBoundary]
  unfold Rack.evaluated
  split <;> rfl

theorem State.deliverBoundary_ends : State.Ends [] s s.deliverBoundary :=
  .of_stands (fun p => by rw [State.addressee, State.port_deliverBoundary]; rfl) fun i => by
    rw [State.follower_deliverBoundary]; exact (Follower.keeps_aged _ _).stands

theorem State.deliverStep_ends (n : Nat) : State.Ends allRacks s (s.deliverStep n) := by
  unfold State.deliverStep State.epochAndBoundary
  dsimp only
  have counted : State.Ends [] s ({ s with boundaries := s.boundaries + n } : State) := .of_eq rfl rfl
  generalize ({ s with boundaries := s.boundaries + n } : State) = v at counted ⊢
  have crossed := counted.after v.crossAll_ends
  generalize v.crossAll = t at crossed ⊢
  have chosen : State.Ends allRacks s t.choose := crossed.then (.of_eq rfl rfl)
  split
  · split
    · exact (chosen.then (State.deliverBoundary_ends _)).then (State.rowEpochs_ends _)
    · exact (chosen.then (State.rowEpochs_ends _)).then (State.deliverBoundary_ends _)
  · exact crossed.then t.rowEpochs_ends

theorem State.restartRow_ends : State.Ends allRacks s s.restartRow := by
  unfold State.restartRow
  dsimp only
  have restarted : State.Ends [] s (({ s with row := s.row.restarted } : State).enterRowState .acquiring) := .of_eq rfl rfl
  generalize ({ s with row := s.row.restarted } : State).enterRowState .acquiring = v at restarted ⊢
  have crossed := restarted.after v.crossAll_ends
  generalize v.crossAll = t at crossed ⊢
  have voided : State.Ends allRacks s t.rowEpochs.voidFences := (crossed.then t.rowEpochs_ends).then (.of_eq rfl rfl)
  refine voided.then (.of_ports (fun p => ?_) (foldl_keeps State.driftRestart State.followers State.driftRestart_followers allRacks _))
  unfold State.port
  rw [State.rack_driftRestarts]

theorem State.leaveRunning_ends (p : RackId) (a : PortState) : State.Ends [p] s (s.leaveRunning p a) := by
  have ended := s.endExchange_ends p .idle
  refine ended.then (.setPort ?_)
  rw [ended.addressee p]
  simp [Port.rest]

end Ends

/-! ## The invariant -/

/-- An exchange in flight addresses a record enrolled on its port, and a Retiring record has its exchange in flight (R60, R61, R78). -/
structure State.LinksHold (s : State) : Prop where
  addressed : ∀ p i, s.addressee p = some i → (s.follower i).port = p ∧ (s.follower i).state ≠ .vacant
  retiring : ∀ i, (s.follower i).state = .retiring → s.addressee (s.follower i).port = some i

theorem State.portsHold_iff {s : State} : s.PortsHold ↔ (∀ p, (s.port p).Sound) ∧ s.LinksHold := by
  have addressee (p : RackId) (i : FollowerId) : s.addressee p = some i ↔ ∃ x, (s.port p).exchange = some x ∧ x.follower = i := by
    simp [State.addressee]
  constructor
  · intro h
    refine ⟨h.sound, fun p i hi => ?_, fun i hi => (addressee _ i).mpr (h.retiring i hi)⟩
    obtain ⟨x, hx, rfl⟩ := (addressee p i).mp hi
    exact h.addressed p x hx
  · intro ⟨hs, h⟩
    exact ⟨hs, fun p x hx => h.addressed p x.follower ((addressee p _).mpr ⟨x, hx, rfl⟩), fun i hi => (addressee _ i).mp (h.retiring i hi)⟩

theorem State.Ends.links {s t : State} {l : List RackId} (h : State.Ends l s t) (hs : s.LinksHold) : t.LinksHold where
  addressed p i hi := by
    rw [h.addressee p] at hi
    split at hi
    · simp at hi
    · rename_i hp
      obtain ⟨port, enrolled⟩ := hs.addressed p i hi
      have stays : s.goneBy l i = false := by
        rw [Bool.eq_false_iff, ne_eq, State.goneBy_iff]
        rintro ⟨-, k, hk, e⟩
        exact hp (((hs.addressed k i e).1.symm.trans port) ▸ hk)
      obtain ⟨ep, ev, -⟩ := h.stands i stays
      exact ⟨ep.trans port, fun e => enrolled (ev.mp e)⟩
  retiring i hi := by
    cases hg : s.goneBy l i with
    | true => exact absurd ((h.gone i hg).symm.trans hi) nofun
    | false =>
      obtain ⟨ep, -, er⟩ := h.stands i hg
      have flying := hs.retiring i (er.mp hi)
      rw [ep, h.addressee, flying, if_neg]
      intro hp
      rw [State.goneBy_iff.mpr ⟨er.mp hi, _, hp, flying⟩] at hg
      simp at hg

end Sys2Proof.Machine

/-! PROOFS. Every command keeps the agreement of ports, exchanges and records (Chapters 4 and 5). -/

namespace Sys2Proof.Machine

/-! ## The sweep (R78, R79) -/

section Sweep

variable {s : State} {p : RackId} {i : FollowerId}

theorem State.mem_of_foldl_better {l : List FollowerId} {b : Option FollowerId} (h : l.foldl s.better b = some i) :
    b = some i ∨ i ∈ l := by
  induction l generalizing b with
  | nil => exact .inl h
  | cons j l ih =>
    rcases ih h with e | hm
    · unfold State.better at e
      split at e
      · exact .inr (by simp [Option.some.inj e])
      · split at e
        · exact .inr (by simp [Option.some.inj e])
        · exact .inl e
    · exact .inr (List.mem_cons_of_mem _ hm)

/-- The sweep chooses a due follower. -/
theorem State.isDue_of_sweepChoice (h : s.sweepChoice p = some i) : s.isDue p i = true := by
  rcases State.mem_of_foldl_better h with e | hm
  · simp at e
  · exact (List.mem_filter.mp hm).2

end Sweep

/-! ## Effects that begin or end no exchange, or end some -/

section Effects

variable {s t : State} {p : RackId} {i : FollowerId} {c : Instr}

/-- A good Reply leaves the record enrolled where it is. -/
theorem State.repliedRecord_stands {x : Exchange} {cap : Capture} {r : Reply} :
    (s.follower x.follower).Stands (s.repliedRecord p x cap r) := by
  have published : (s.follower x.follower).Stands ((s.follower x.follower).publish (s.newEstimate p x cap r)) := by
    obtain ⟨port, -⟩ := Follower.publish_place (s.follower x.follower) (s.newEstimate p x cap r)
    have state := Follower.publish_state (s.follower x.follower) (s.newEstimate p x cap r)
    exact ⟨port, by rw [state], by rw [state]⟩
  have settled (f : Follower) (b a : Bool) (t4 : Nat) : f.Stands (f.settled b a t4) := by
    rcases f.keeps_settled b a t4 with k | ⟨hs, -, -, -, e⟩
    · exact k.stands
    · rw [e]; exact ⟨rfl, by simp [hs], by simp [hs]⟩
  exact (published.trans (settled _ _ _ _)).trans (Follower.keeps_ordered _ _ _ _).stands

theorem State.sendVerdict_ends {x : Exchange} (hx : (s.port p).exchange = some x) (l : List Notice) :
    State.Ends [] s (s.sendVerdict p x l) :=
  .setPort (by simp [State.addressee, hx])

theorem State.restartedAnnounce_addressee (b : Bool) (k : RackId) : (s.restartedAnnounce p b).addressee k = s.addressee k := by
  rw [State.addressee, State.port, State.rack_restartedAnnounce, Rack.setAnnounce_eq]
  split <;> rfl

/-- A good Reply ends the exchange of a Retiring record, and of no other. -/
theorem State.processReply_ends {x : Exchange} {cap : Capture} {r : Reply} (hx : (s.port p).exchange = some x) :
    ∃ l, State.Ends l s (s.processReply p x cap r) := by
  have announced : State.Ends [] s (s.restartedAnnounce p r.restarted) :=
    .of_stands (State.restartedAnnounce_addressee _) fun i => by rw [State.restartedAnnounce_follower]; exact ⟨rfl, .rfl, .rfl⟩
  have hx' : ((s.restartedAnnounce p r.restarted).port p).exchange = some x := by rw [State.restartedAnnounce_exchange, hx]
  have send {u : State} (hu : u.racks = (s.restartedAnnounce p r.restarted).racks) (l : List Notice) (k : RackId) :
      (u.clearBeforeVerdict.sendVerdict p x l).addressee k = s.addressee k := by
    have hr : u.clearBeforeVerdict.racks = (s.restartedAnnounce p r.restarted).racks := (State.clearBeforeVerdict_racks u).trans hu
    rw [(State.sendVerdict_ends ((congrArg Port.exchange (State.port_congr hr p)).trans hx') l).addressee k, if_neg (List.not_mem_nil)]
    exact (State.addressee_congr hr k).trans (State.restartedAnnounce_addressee _ k)
  by_cases ha : (s.follower x.follower).state.active = true
  · refine ⟨[], .of_stands (fun k => ?_) fun i => ?_⟩
    · rw [State.processReply_of_active ha]
      exact send ((State.answerAsks_racks _ _ _ _ _ _).trans State.afterStages_racks) _ k
    · rw [State.follower_processReply_active ha]
      split
      · rename_i e
        exact e ▸ State.repliedRecord_stands
      · exact ⟨rfl, .rfl, .rfl⟩
  · by_cases hm : (s.follower x.follower).state = .muted
    · refine ⟨[], .of_stands (fun k => ?_) fun i => ?_⟩
      · rw [State.processReply_of_muted hm]
        exact send (State.orderStage_racks _ _ _ _) _ k
      · rw [State.follower_processReply_muted hm]
        split
        · exact (Follower.keeps_ordered _ _ _ _).stands
        · exact ⟨rfl, .rfl, .rfl⟩
    · rw [State.processReply_of_leaving (FollowerState.leaving_of ha hm)]
      exact ⟨[p], announced.after (State.endExchange_ends _ p .idle)⟩

theorem State.chargeFault_ends (p : RackId) (i : FollowerId) (k : FaultKind) (attempt : Bool) :
    State.Ends [] s (s.chargeFault p i k attempt) := by
  refine .of_stands (fun q => ?_) fun j => ?_
  · have charged : ((if attempt then s.addAttempt i else s).countFault i k).racks = s.racks := by
      rw [State.countFault_racks]
      split
      · exact State.addAttempt_racks s i
      · rfl
    rw [← State.addressee_congr charged q]
    exact ((State.decrementBudget_ends _ p).addressee q).trans (if_neg List.not_mem_nil)
  · by_cases e : i = j
    · subst e
      rw [State.chargeFault_follower_self]
      exact (Follower.Keeps.trans (.ite (fun _ => Follower.keeps_attempted _) fun _ => .refl _) (Follower.keeps_faulted _ _ _)).stands
    · rw [State.chargeFault_follower_ne _ _ _ _ e]
      exact ⟨rfl, .rfl, .rfl⟩

theorem State.faultExchange_ends {x : Exchange} (hx : (s.port p).exchange = some x) (k : FaultKind) (attempt : Bool) :
    State.Ends [p] s (s.faultExchange p k attempt) := by
  rw [State.faultExchange_eq _ _ _ hx]
  exact (State.chargeFault_ends p _ k _).after (State.endExchange_ends _ p .idle)

theorem State.usedMark_ends (e : Int) (v : Nat) : ∃ l, State.Ends l s (s.usedMark e v) := by
  unfold State.usedMark
  split
  · have stepped : State.Ends [] s (s.stepRow e.toNat v) := .of_eq rfl rfl
    exact ⟨allRacks, stepped.after (State.deliverStep_ends _ _)⟩
  · exact ⟨[], .of_eq rfl rfl⟩

theorem State.inUseMark_ends (r : Reference) (e : Int) (v : Nat) : ∃ l, State.Ends l s (s.inUseMark r e v) := by
  have stays {u : State} (hr : u.racks = s.racks) (hf : u.followers = s.followers) : ∃ l, State.Ends l s u := ⟨[], .of_eq hr hf⟩
  have passed {u : State} {w : RefRecord} (h : State.Ends [] s u) : ∃ l, State.Ends l s ((u.setRef r w).usedMark e v) := by
    obtain ⟨l, k⟩ := State.usedMark_ends (s := u.setRef r w) e v
    have written : State.Ends [] u (u.setRef r w) := .of_eq rfl rfl
    exact ⟨l, (h.then written).after k⟩
  unfold State.inUseMark State.passMark
  dsimp only
  split
  · exact stays rfl rfl
  · split
    · unfold State.rejectMark
      dsimp only
      split
      · exact stays (State.faultReference_racks _ _) (State.faultReference_followers _ _)
      · exact stays rfl rfl
    · exact passed (.of_eq rfl rfl)

theorem State.judgeMark_ends (r : Reference) (m : Mark) (b : Bool) : ∃ l, State.Ends l s (s.judgeMark r m b) := by
  unfold State.judgeMark
  split
  · unfold State.consistentMark
    dsimp only
    split
    · obtain ⟨l, h⟩ := State.inUseMark_ends (s := s.setRef r ((s.ref r).record m true).qualify) r ((s.ref r).phaseError m) m.declaredU
      have recorded : State.Ends [] s (s.setRef r ((s.ref r).record m true).qualify) := .of_eq rfl rfl
      exact ⟨l, recorded.after h⟩
    · exact ⟨[], .of_eq (State.designate_racks _) (State.designate_followers _)⟩
  · exact ⟨[], .of_eq (State.inconsistentMark_racks _ _) (State.inconsistentMark_followers _ _)⟩

theorem State.linkMark_ends (r : Reference) (a : Nat) (m : Option MarkFields) : ∃ l, State.Ends l s (s.linkMark r a m) := by
  unfold State.linkMark
  split
  · exact ⟨[], .of_eq (State.inconsistentMark_racks _ _) (State.inconsistentMark_followers _ _)⟩
  · exact State.judgeMark_ends _ _ _

theorem State.amendDrift_port (p k : RackId) (presence : Nat) (o : RackOperands) : (s.amendDrift p presence o).port k = s.port k := by
  unfold State.amendDrift
  split
  · unfold State.port
    rw [State.rack_setDrift, State.rack_takeExpiries]
    split
    · rename_i e
      subst e
      rfl
    · rfl
  · rfl

theorem State.amendDrift_followers (p : RackId) (presence : Nat) (o : RackOperands) : (s.amendDrift p presence o).followers = s.followers := by
  unfold State.amendDrift
  split <;> simp

theorem State.amendEnabled_ends (p : RackId) (enabled : Option Bool) : ∃ l, State.Ends l s (s.amendEnabled p enabled) := by
  unfold State.amendEnabled
  split
  · unfold State.enablePort
    dsimp only
    split
    · exact ⟨[], .refl⟩
    · exact ⟨[], .setPort rfl⟩
  · unfold State.disablePort
    dsimp only
    split
    · exact ⟨[p], s.leaveRunning_ends p _⟩
    · exact ⟨[], .setPort rfl⟩
    · exact ⟨[], .refl⟩
  · exact ⟨[], .refl⟩

theorem State.Ends.answer {l : List RackId} (h : State.Ends l s t) (o : Outcome) (bytes : List Byte) : State.Ends l s (t.answer o bytes) :=
  h.then (.of_eq rfl rfl)

theorem State.Ends.raiseRack {l : List RackId} (h : State.Ends l s t) (k : RackEvent) : State.Ends l s (t.raiseRack p k) :=
  h.then (.of_eq rfl rfl)

/-! ## Effects that begin an exchange, enrol or retire -/

theorem State.LinksHold.startExchange (hs : s.LinksHold) (idle : s.addressee p = none) (due : s.isDue p i = true) :
    (s.startExchange p i).LinksHold := by
  simp only [State.isDue, Bool.and_eq_true, beq_iff_eq, decide_eq_true_eq] at due
  obtain ⟨⟨active, port⟩, -⟩ := due
  have enrolled := FollowerState.active_enrolled active
  have stands : State.Ends [] s (s.setFollower i { s.follower i with nextDue := s.nextDueAfter (s.follower i) (s.rack p).drift.state }) :=
    .setFollower ⟨rfl, .rfl, .rfl⟩
  have begins (k : RackId) : (s.startExchange p i).addressee k = if p = k then some i else s.addressee k := by
    unfold State.startExchange
    dsimp only
    rw [State.addressee, State.port_setPort]
    split <;> rfl
  have follower (j : FollowerId) : (s.follower j).Stands ((s.startExchange p i).follower j) := stands.stands j State.goneBy_nil
  refine ⟨fun k j hj => ?_, fun j hj => ?_⟩
  · obtain ⟨ep, ev, -⟩ := follower j
    rw [begins] at hj
    rw [ep, ne_eq, ev]
    split at hj
    · rename_i e
      cases hj
      exact ⟨port.trans e, enrolled.1⟩
    · exact hs.addressed k j hj
  · obtain ⟨ep, -, er⟩ := follower j
    have flying := hs.retiring j (er.mp hj)
    rw [ep, begins, if_neg (fun e => by rw [← e, idle] at flying; cases flying), flying]

/-- A Vacant record written with one that is not Retiring. -/
theorem State.LinksHold.enrol (hs : s.LinksHold) (vacant : (s.follower i).state = .vacant) {g : Follower}
    (hr : g.state ≠ .retiring) : (s.setFollower i g).LinksHold := by
  refine ⟨fun k j hj => ?_, fun j hj => ?_⟩
  · have addressed := hs.addressed k j hj
    rw [State.follower_setFollower, if_neg (fun e : i = j => addressed.2 (e ▸ vacant))]
    exact addressed
  · rw [State.follower_setFollower] at hj ⊢
    split at hj
    · exact absurd hj hr
    · rename_i e
      rw [if_neg e]
      exact hs.retiring j hj

/-- RETIRE while the record's exchange is in flight (R60). -/
theorem State.LinksHold.retireLater (hs : s.LinksHold) (hx : s.inFlight i = true) :
    (s.setFollower i { s.follower i with state := .retiring }).LinksHold := by
  have flying : s.addressee (s.follower i).port = some i := by
    simpa [State.addressee] using State.inFlight_iff.mp hx
  refine ⟨fun k j hj => ?_, fun j hj => ?_⟩
  · have addressed := hs.addressed k j hj
    rw [State.follower_setFollower]
    split
    · rename_i e
      subst e
      exact ⟨addressed.1, nofun⟩
    · exact addressed
  · rw [State.follower_setFollower] at hj ⊢
    split at hj
    · rename_i e
      subst e
      rw [if_pos rfl]
      exact flying
    · rename_i e
      rw [if_neg e]
      exact hs.retiring j hj

/-- RETIRE of a record with no exchange in flight (R60, R63). -/
theorem State.LinksHold.retireNow (hs : s.LinksHold) (hx : s.inFlight i = false) :
    (s.vacate i).LinksHold := by
  have free (k : RackId) : s.addressee k ≠ some i := by
    intro hk
    have flying : s.inFlight i = true := by
      rw [State.inFlight_iff, (hs.addressed k i hk).1]
      simpa [State.addressee] using hk
    rw [hx] at flying
    cases flying
  have addressee (k : RackId) : (s.vacate i).addressee k = s.addressee k := State.addressee_congr (State.vacate_racks s i) k
  refine ⟨fun k j hj => ?_, fun j hj => ?_⟩
  · rw [addressee] at hj
    rw [State.follower_vacate_ne s (fun e : i = j => free k (e ▸ hj))]
    exact hs.addressed k j hj
  · by_cases e : i = j
    · subst e
      rw [State.follower_vacate_self] at hj
      cases hj
    · rw [State.follower_vacate_ne s e] at hj ⊢
      rw [addressee]
      exact hs.retiring j hj

theorem State.amendRow_racks (presence : Nat) (o : RowOperands) : (s.amendRow presence o).racks = s.racks := by
  unfold State.amendRow State.amendFences
  dsimp only
  split <;> simp

/-- What one command does to the exchanges in flight and to the records they address. -/
theorem Effect.linksHold (h : Effect s c t) (sound : ∀ p, (s.port p).Sound) (hs : s.LinksHold) : t.LinksHold := by
  have ends {u : State} (k : ∃ l, State.Ends l s u) : u.LinksHold := let ⟨_, k⟩ := k; k.links hs
  have none_of {p : RackId} (ha : (s.port p).activity ≠ .exchange) : s.addressee p = none := by
    simp [State.addressee, (sound p).exchange_none ha]
  cases h with
  | stays => exact hs
  | reset =>
    have none (p : RackId) : (State.reset.port p).exchange = none := by rw [State.port, State.reset_rack]; rfl
    refine ⟨fun p i hi => ?_, fun i hi => ?_⟩
    · have hi' : State.reset.addressee p = some i := hi
      simp [State.addressee, none] at hi'
    · have hi' : (State.reset.follower i).state = .retiring := hi
      rw [State.reset_follower] at hi'
      cases hi'
  | linkMark l received a =>
    obtain ⟨l', h⟩ := State.linkMark_ends
      (s := s.setRef (linkReference l) { s.ref (linkReference l) with arriving := none }) (linkReference l) a (parseMark received)
    have written : State.Ends [] s (s.setRef (linkReference l) { s.ref (linkReference l) with arriving := none }) := .of_eq rfl rfl
    exact (written.after h).links hs
  | pulseMark =>
    have chosen : State.Ends [] s s.choose := .of_eq rfl rfl
    have judged (m : Mark) (b : Bool) : ∃ l, State.Ends l s (s.choose.judgeMark .pulse m b) :=
      let ⟨l, h⟩ := State.judgeMark_ends (s := s.choose) .pulse m b
      ⟨l, chosen.after h⟩
    exact ends (judged _ _)
  | missMark r => exact ends ⟨[], .of_eq (s.missMark_racks r) (s.missMark_followers r)⟩
  | boundary =>
    have counted : State.Ends [] s ({ s with boundaries := s.boundaries + 1 } : State) := .of_eq rfl rfl
    exact (counted.after (State.deliverBoundary_ends _)).links hs
  | persistence p =>
    refine ends ⟨[], .of_ports (fun k => ?_) (by simp)⟩
    rw [State.port, State.rack_takePersistenceExpiry]
    split <;> rfl
  | calm p =>
    refine ends ⟨[], .of_ports (fun k => ?_) (by simp)⟩
    rw [State.port, State.rack_takeCalmExpiry]
    split <;> rfl
  | announce p h => exact ends ⟨[], .setPort rfl⟩
  | announced p h => exact ends ⟨[], .setPort rfl⟩
  | announceFails p h =>
    have rests : State.Ends [] s (s.setPort p ((s.port p).rest .idle)) := .setPort (by simp [Port.rest, none_of (p := p) (by simp [h])])
    exact (rests.then (State.decrementBudget_ends _ p)).links hs
  | unsolicited p h =>
    have counted : State.Ends [] s (s.setPort p { s.port p with unsolicited := (s.port p).unsolicited + 1 }) := .setPort rfl
    exact (counted.then (State.decrementBudget_ends _ p)).links hs
  | quietEnd p h => exact ends ⟨[], .setPort rfl⟩
  | exchangeStart p i hdue hi =>
    simp only [State.exchangeDue, Bool.and_eq_true, Port.idleRunning_iff] at hdue
    exact hs.startExchange (none_of (by simp [hdue.1.1.2])) (State.isDue_of_sweepChoice hi)
  | probeEnd p x hx hp => exact ends ⟨[], .setPort (by simp [State.addressee, hx])⟩
  | replyArrival p x hx hp hr => exact ends ⟨[], .setPort (by simp [State.addressee, hx])⟩
  | echoFault p x attempt hx => exact (State.faultExchange_ends hx _ _).links hs
  | timeout p x hx => exact (State.faultExchange_ends hx _ _).links hs
  | badReply p received x cap k hx => exact (State.faultExchange_ends hx _ _).links hs
  | goodReply p received x cap r hx => exact ends (State.processReply_ends hx)
  | verdictEnd p x hx =>
    have removed : State.Ends [] s (s.removeCarried x.carried) := .of_eq rfl rfl
    exact (removed.after (State.endExchange_ends _ p .idle)).links hs
  | guardTrip p => exact ends ⟨[p], (s.leaveRunning_ends p .halted).raiseRack _⟩
  | enrol port slot o p k kind i hp hk hfree hi =>
    have vacant : (s.follower i).state = .vacant := by simpa using (State.findFollower_some s hi).1
    exact (State.Ends.answer .refl _ _).links (hs.enrol vacant nofun)
  | amendFollower b presence o => exact ends ⟨[], .answer (.setFollower (Follower.keeps_amend _ _ _).stands) _ _⟩
  | mute b hv hr => exact ends ⟨[], .answer (.setFollower (Follower.keeps_muted _ hv hr).stands) _ _⟩
  | unmute b h => exact ends ⟨[], .answer (.setFollower (Follower.keeps_unmuted _ h _).stands) _ _⟩
  | retireLater b hv hx => exact (State.Ends.answer .refl _ _).links (hs.retireLater hx)
  | retireNow b hv hr hx => exact (State.Ends.answer .refl _ _).links (hs.retireNow hx)
  | noticeRead i =>
    refine ends ⟨[], .answer (.setFollower ?_) _ _⟩
    exact ⟨rfl, .rfl, .rfl⟩
  | order b kind k =>
    refine ends ⟨[], .answer (.setFollower ?_) _ _⟩
    exact ⟨rfl, .rfl, .rfl⟩
  | amendRack hc p presence o =>
    have amended : State.Ends [] s (s.setRack p ((s.rack p).amend presence o)) := by
      refine .of_stands (fun k => ?_) fun i => ⟨rfl, .rfl, .rfl⟩
      rw [State.addressee, State.port, State.rack_setRack]
      split
      · rename_i e
        exact e ▸ rfl
      · rfl
    have drift : State.Ends [] (s.setRack p ((s.rack p).amend presence o)) ((s.setRack p ((s.rack p).amend presence o)).amendDrift p presence o) :=
      .of_ports (fun k => State.amendDrift_port p k presence o) (State.amendDrift_followers p presence o)
    obtain ⟨l, h⟩ := State.amendEnabled_ends (s := (s.setRack p ((s.rack p).amend presence o)).amendDrift p presence o) p
      (marked presence 0 o.enabled >>= bitOf)
    exact ends ⟨l, .answer ((amended.then drift).after h) _ _⟩
  | ackWarning b p =>
    refine ends ⟨[], .answer (.of_ports (fun k => ?_) ?_) _ _⟩
    · rw [State.port, State.rack_setDrift]
      split <;> rfl
    · rfl
  | amendRow presence o => exact ends ⟨[], .answer (.of_eq (State.amendRow_racks _ _) (State.amendRow_followers _ _)) _ _⟩
  | restartRow => exact ends ⟨allRacks, s.restartRow_ends.answer _ _⟩
  | warmUpEnd => exact ends ⟨[], .of_eq (by simp [State.endWarmUp]) (by simp [State.endWarmUp])⟩
  | _ => exact ends ⟨[], .of_eq (by simp) (by simp)⟩

end Effects

/-- Settles O58: every effect keeps the ports sound and the exchanges in agreement with the records. -/
theorem portsStaySound : Obligations.PortsStaySound := by
  intro s t hs h
  refine step_keeps (P := State.PortsHold) ?_ ?_ ?_ hs h
  · intro s t heq hs
    rw [State.portsHold_iff] at hs ⊢
    exact ⟨fun p => heq.port p ▸ hs.1 p, (State.Ends.of_eq heq.racks heq.followers).links hs.2⟩
  · intro s hs
    rw [State.portsHold_iff] at hs ⊢
    exact ⟨hs.1, State.Ends.links (s := s) (.of_eq rfl rfl) hs.2⟩
  · intro s t c he hs
    rw [State.portsHold_iff] at hs ⊢
    exact ⟨fun p => (he.racksKeep p).port (hs.1 p), he.linksHold hs.1 hs.2⟩

end Sys2Proof.Machine

/-! PROOFS. The Fence List at every step (R135, R139, R144): what each operation leaves of it, what a good Reply inserts, and what a clearing clears. -/

namespace Sys2Proof.Machine

/-! ## Operations that insert and clear no fence -/

/-- What no change of a fence writes. -/
def Fence.key (f : Fence) : Nat × FollowerId × Nat := (f.bound, f.follower, f.serial)

/-- Fences are removed, or changed but not Cleared, and none is inserted; what is left of the list stays in its order. -/
structure FenceList.Dwindles (l m : FenceList) : Prop where
  keys : (m.list.map Fence.key).Sublist (l.list.map Fence.key)
  next : m.nextSerial = l.nextSerial
  cleared : ∀ f ∈ m.list, f.state = .cleared → f ∈ l.list

/-- The list dwindles, and no fence left is of a record that has become Vacant. -/
structure State.FencesMove (s t : State) : Prop where
  dwindles : s.fences.Dwindles t.fences
  named : ∀ f ∈ t.fences.list, (s.follower f.follower).state ≠ .vacant → (t.follower f.follower).state ≠ .vacant

section Moves

variable {s t u : State} {l m n : FenceList} {p : RackId} {i : FollowerId}

theorem FenceList.Dwindles.refl (l : FenceList) : l.Dwindles l := ⟨.refl _, rfl, fun _ h _ => h⟩

theorem FenceList.Dwindles.trans (h : l.Dwindles m) (k : m.Dwindles n) : l.Dwindles n :=
  ⟨k.keys.trans h.keys, k.next.trans h.next, fun f hf hc => h.cleared f (k.cleared f hf hc) hc⟩

/-- A fence left has a fence of the same bound, follower and serial number before it. -/
theorem FenceList.Dwindles.exists_key (h : l.Dwindles m) {f : Fence} (hf : f ∈ m.list) : ∃ g ∈ l.list, g.key = f.key :=
  List.mem_map.mp (h.keys.subset (List.mem_map_of_mem hf))

theorem FenceList.Dwindles.filter (l : FenceList) (q : Fence → Bool) : l.Dwindles { l with list := l.list.filter q } :=
  ⟨List.filter_sublist.map _, rfl, fun _ h _ => (List.mem_filter.mp h).1⟩

/-- Fences removed or changed, one by one. -/
theorem FenceList.Dwindles.of_filterMap {g : Fence → Option Fence} (hk : ∀ f f', g f = some f' → f'.key = f.key)
    (hc : ∀ f f', g f = some f' → f'.state = .cleared → f' = f) (hl : m.list = l.list.filterMap g) (hn : m.nextSerial = l.nextSerial) :
    l.Dwindles m := by
  refine ⟨?_, hn, fun f hf hcl => ?_⟩
  · rw [hl]
    generalize l.list = k
    induction k with
    | nil => exact .refl _
    | cons f k ih =>
      cases e : g f with
      | none => rw [List.filterMap_cons_none e]; exact ih.cons _
      | some f' => rw [List.filterMap_cons_some e, List.map_cons, List.map_cons, hk f f' e]; exact ih.cons_cons _
  · rw [hl, List.mem_filterMap] at hf
    obtain ⟨f₀, h₀, e⟩ := hf
    rw [hc f₀ f e hcl]
    exact h₀

theorem State.FencesMove.trans (h : s.FencesMove t) (k : t.FencesMove u) : s.FencesMove u := by
  refine ⟨h.dwindles.trans k.dwindles, fun f hf hs => k.named f hf ?_⟩
  obtain ⟨g, hg, e⟩ := k.dwindles.exists_key hf
  have same : g.follower = f.follower := congrArg (fun x => x.2.1) e
  rw [← same] at hs ⊢
  exact h.named g hg hs

theorem State.FencesMove.of_stands (hd : s.fences.Dwindles t.fences) (hf : ∀ i, (s.follower i).Stands (t.follower i)) : s.FencesMove t :=
  ⟨hd, fun f _ h e => h ((hf f.follower).vacant.mp e)⟩

/-- The exchanges of some ports end, and the fences of the records that become Vacant by it go (R61, R144). -/
theorem State.FencesMove.of_ends {l : List RackId} (h : State.Ends l s t)
    (hl : t.fences = { s.fences with list := s.fences.list.filter fun f => !s.goneBy l f.follower }) : s.FencesMove t := by
  refine ⟨hl ▸ .filter _ _, fun f hf hs e => ?_⟩
  rw [hl] at hf
  have left : s.goneBy l f.follower = false := by simpa using (List.mem_filter.mp hf).2
  exact hs ((h.stands f.follower left).vacant.mp e)

theorem State.FencesMove.of_eq (hf : t.followers = s.followers) (hl : t.fences = s.fences) : s.FencesMove t :=
  ⟨hl ▸ .refl _, fun f _ h => by rwa [show t.follower f.follower = s.follower f.follower by simp only [State.follower, hf]]⟩

theorem State.FencesMove.refl : s.FencesMove s := .of_eq rfl rfl

theorem State.FencesMove.answer (h : s.FencesMove t) (o : Outcome) (b : List Byte) : s.FencesMove (t.answer o b) :=
  h.trans (.of_eq rfl rfl)

variable (s)

theorem State.deliverStep_fences (n : Nat) :
    (s.deliverStep n).fences = { s.fences with list := s.fences.list.filter fun f => !s.goneBy allRacks f.follower } := by
  have crossed := State.fences_crossAll ({ s with boundaries := s.boundaries + n } : State)
  unfold State.deliverStep
  dsimp only
  generalize ({ s with boundaries := s.boundaries + n } : State).crossAll = t at crossed ⊢
  have moved : (if 0 < n then t.epochAndBoundary else t.rowEpochs).fences = t.fences := by split <;> simp
  rw [moved, crossed]
  rfl

theorem State.deliverStep_moves (n : Nat) : s.FencesMove (s.deliverStep n) := .of_ends (s.deliverStep_ends n) (s.deliverStep_fences n)

theorem State.endExchange_moves (p : RackId) (a : Activity) : s.FencesMove (s.endExchange p a) :=
  .of_ends (s.endExchange_ends p a) (s.endExchange_fences p a)

/-- A fence that is voided by a restart (R143). -/
def State.voidFence (s : State) (f : Fence) : Fence :=
  if f.state = .waiting then { f with state := .voidedRestart, lastChange := s.now } else f

theorem State.voidFences_eq : s.voidFences = s.setFences (s.fences.list.map s.voidFence) := rfl

theorem State.voidFence_key (f : Fence) : (s.voidFence f).key = f.key := by unfold State.voidFence; split <;> rfl

theorem State.voidFences_moves : s.FencesMove s.voidFences := by
  refine .of_stands ?_ fun i => ⟨rfl, .rfl, .rfl⟩
  refine .of_filterMap (g := fun f => some (s.voidFence f)) ?_ ?_ (by simp [State.voidFences_eq]) rfl
  · rintro f _ ⟨⟩
    exact s.voidFence_key f
  · rintro f _ ⟨⟩ hc
    unfold State.voidFence at hc ⊢
    split at hc
    · simp at hc
    · rename_i h
      rw [if_neg h]

theorem State.restartRow_moves : s.FencesMove s.restartRow := by
  unfold State.restartRow
  dsimp only
  have restarted : s.FencesMove (({ s with row := s.row.restarted } : State).enterRowState .acquiring) := .of_eq rfl rfl
  generalize ({ s with row := s.row.restarted } : State).enterRowState .acquiring = v at restarted ⊢
  have crossed := restarted.trans (.of_ends v.crossAll_ends v.fences_crossAll)
  generalize v.crossAll = t at crossed ⊢
  have epochs : s.FencesMove t.rowEpochs :=
    crossed.trans (.of_stands (t.rowEpochs_fences ▸ .refl _) fun i => t.rowEpochs_ends.stands i State.goneBy_nil)
  refine (epochs.trans (State.voidFences_moves _)).trans (.of_eq ?_ ?_)
  · exact foldl_keeps State.driftRestart State.followers State.driftRestart_followers allRacks _
  · exact foldl_keeps State.driftRestart State.fences State.driftRestart_fences allRacks _

theorem State.chargeFault_fences (p : RackId) (i : FollowerId) (k : FaultKind) (attempt : Bool) :
    (s.chargeFault p i k attempt).fences = s.fences := by
  unfold State.chargeFault
  rw [State.decrementBudget_fences, State.countFault_fences]
  split
  · exact State.addAttempt_fences s i
  · rfl

theorem State.faultExchange_fences {x : Exchange} (hx : (s.port p).exchange = some x) (k : FaultKind) (attempt : Bool) :
    (s.faultExchange p k attempt).fences = { s.fences with list := s.fences.list.filter fun f => !s.goneBy [p] f.follower } := by
  rw [State.faultExchange_eq _ _ _ hx, State.endExchange_fences, State.chargeFault_fences]
  simp only [(State.chargeFault_ends p _ k _).goneBy]

theorem State.faultExchange_moves {x : Exchange} (hx : (s.port p).exchange = some x) (k : FaultKind) (attempt : Bool) :
    s.FencesMove (s.faultExchange p k attempt) := .of_ends (State.faultExchange_ends hx k attempt) (s.faultExchange_fences hx k attempt)

theorem State.leaveRunning_moves (p : RackId) (a : PortState) : s.FencesMove (s.leaveRunning p a) :=
  (s.endExchange_moves p .idle).trans (.of_eq rfl rfl)

theorem State.amendEnabled_moves (p : RackId) (enabled : Option Bool) : s.FencesMove (s.amendEnabled p enabled) := by
  unfold State.amendEnabled
  split
  · exact .of_eq (State.enablePort_followers _ _) (State.enablePort_fences _ _)
  · unfold State.disablePort
    dsimp only
    split
    · exact s.leaveRunning_moves p _
    · exact .of_eq rfl rfl
    · exact .refl
  · exact .refl

theorem State.amendDrift_fences (p : RackId) (presence : Nat) (o : RackOperands) : (s.amendDrift p presence o).fences = s.fences := by
  unfold State.amendDrift
  split <;> simp

/-- One fence under an amended fence wait maximum (R136). -/
def State.sweptFence (s : State) (f : Fence) : Option Fence :=
  if s.overdue f then (if f.state = .waiting then some (s.expireFence f) else none) else some f

theorem State.sweptFence_some {f f' : Fence} (h : s.sweptFence f = some f') : f' = s.expireFence f ∨ f' = f := by
  unfold State.sweptFence at h
  split at h
  · split at h
    · exact .inl (Option.some.inj h).symm
    · cases h
  · exact .inr (Option.some.inj h).symm

theorem State.sweepFences_moves : s.FencesMove s.sweepFences := by
  have list : s.sweepFences.fences.list = s.fences.list.filterMap s.sweptFence := by simp [State.sweepFences]; rfl
  have next : s.sweepFences.fences.nextSerial = s.fences.nextSerial := by simp [State.sweepFences]
  have stands (i : FollowerId) : s.sweepFences.follower i = s.follower i := by simp [State.sweepFences, State.follower]
  refine .of_stands (.of_filterMap ?_ ?_ list next) fun i => by rw [stands]; exact ⟨rfl, .rfl, .rfl⟩
  · intro f f' h
    rcases s.sweptFence_some h with rfl | rfl <;> rfl
  · intro f f' h hc
    rcases s.sweptFence_some h with rfl | rfl
    · simp [State.expireFence] at hc
    · rfl

theorem State.amendRow_moves (presence : Nat) (o : RowOperands) : s.FencesMove (s.amendRow presence o) := by
  unfold State.amendRow State.amendFences
  dsimp only
  have listed (t : State) (hf : t.followers = s.followers) (hl : t.fences = s.fences) (horizon waitMax : Nat) :
      s.FencesMove { t with fences := { t.fences with horizon := horizon, waitMax := waitMax } } := by
    refine (State.FencesMove.of_eq hf hl).trans (.of_stands ?_ fun i => ⟨rfl, .rfl, .rfl⟩)
    exact ⟨.refl _, rfl, fun _ h _ => h⟩
  split
  · exact (listed _ (by simp) (by simp) _ _).trans (State.sweepFences_moves _)
  · exact listed _ (by simp) (by simp) _ _

theorem State.usedMark_fenceMoves (e : Int) (v : Nat) : s.FencesMove (s.usedMark e v) := by
  unfold State.usedMark
  split
  · have stepped : s.FencesMove (s.stepRow e.toNat v) := .of_eq rfl rfl
    exact stepped.trans (State.deliverStep_moves _ _)
  · exact .of_eq rfl rfl

theorem State.inUseMark_fenceMoves (r : Reference) (e : Int) (v : Nat) : s.FencesMove (s.inUseMark r e v) := by
  have passed {u : State} {w : RefRecord} (h : s.FencesMove u) : s.FencesMove ((u.setRef r w).usedMark e v) :=
    have written : u.FencesMove (u.setRef r w) := .of_eq rfl rfl
    (h.trans written).trans ((u.setRef r w).usedMark_fenceMoves e v)
  unfold State.inUseMark State.passMark
  dsimp only
  split
  · exact .of_eq rfl rfl
  · split
    · unfold State.rejectMark
      dsimp only
      split
      · exact .of_eq (State.faultReference_followers _ _) (State.faultReference_fences _ _)
      · exact .of_eq rfl rfl
    · exact passed (.of_eq rfl rfl)

theorem State.judgeMark_fenceMoves (r : Reference) (m : Mark) (b : Bool) : s.FencesMove (s.judgeMark r m b) := by
  unfold State.judgeMark
  split
  · unfold State.consistentMark
    dsimp only
    split
    · have recorded : s.FencesMove (s.setRef r ((s.ref r).record m true).qualify) := .of_eq rfl rfl
      exact recorded.trans (State.inUseMark_fenceMoves _ _ _ _)
    · exact .of_eq (State.designate_followers _) (State.designate_fences _)
  · exact .of_eq (State.inconsistentMark_followers _ _) (State.inconsistentMark_fences _ _)

theorem State.linkMark_fenceMoves (r : Reference) (a : Nat) (m : Option MarkFields) : s.FencesMove (s.linkMark r a m) := by
  unfold State.linkMark
  split
  · exact .of_eq (State.inconsistentMark_followers _ _) (State.inconsistentMark_fences _ _)
  · exact State.judgeMark_fenceMoves _ _ _ _

theorem State.missMark_fences (r : Reference) : (s.missMark r).fences = s.fences := by
  dsimp only [State.missMark]
  split <;> simp

theorem State.vacate_moves (i : FollowerId) : s.FencesMove (s.vacate i) := by
  have left := State.vacate_fences s i
  refine ⟨left ▸ .filter _ _, fun f hf hs => ?_⟩
  rw [left] at hf
  have other : f.follower ≠ i := by simpa using (List.mem_filter.mp hf).2
  rwa [State.follower_vacate_ne s other.symm]

/-- One fence expired (R141). -/
theorem State.expireAt_moves (k : Nat) : s.FencesMove (s.setFences (s.fences.list.modify k s.expireFence)) := by
  refine .of_stands ⟨?_, rfl, fun f hf hc => ?_⟩ fun i => ⟨rfl, .rfl, .rfl⟩
  · have keys : (s.fences.list.modify k s.expireFence).map Fence.key = s.fences.list.map Fence.key := by
      refine List.ext_getElem? fun j => ?_
      rw [List.getElem?_map, List.getElem?_map, List.getElem?_modify]
      cases s.fences.list[j]? with
      | none => rfl
      | some f => by_cases e : k = j <;> simp [e, State.expireFence, Fence.key]
    exact keys ▸ .refl _
  · obtain ⟨j, hj⟩ := List.getElem?_of_mem hf
    have hj' : (s.fences.list.modify k s.expireFence)[j]? = some f := hj
    rw [List.getElem?_modify] at hj'
    cases h : s.fences.list[j]? with
    | none => simp [h] at hj'
    | some f₀ =>
      by_cases e : k = j
      · simp only [h, e, if_true] at hj'
        rw [← Option.some.inj hj'] at hc
        cases hc
      · simp only [h, e, if_false] at hj'
        exact Option.some.inj hj' ▸ List.mem_of_getElem? h

theorem State.dropFenceAt_moves (k : Nat) : s.FencesMove (s.dropFenceAt k) :=
  .of_stands ⟨(List.eraseIdx_sublist _ k).map _, rfl, fun _ h _ => (List.eraseIdx_sublist _ k).subset h⟩
    fun _ => ⟨rfl, .rfl, .rfl⟩

/-- One record written, Vacant before it or enrolled after it. -/
theorem State.FencesMove.setFollower {i : FollowerId} {g : Follower} (h : (s.follower i).state ≠ .vacant → g.state ≠ .vacant) :
    s.FencesMove (s.setFollower i g) := by
  refine ⟨.refl _, fun f _ hs => ?_⟩
  rw [State.follower_setFollower]
  split
  · rename_i e
    exact h (e ▸ hs)
  · exact hs

/-- A good Reply to a record that has left, or is leaving (R61, R88). -/
theorem State.processReply_leaving_moves {x : Exchange} {cap : Capture} {r : Reply}
    (h : (s.follower x.follower).state = .vacant ∨ (s.follower x.follower).state = .retiring) :
    s.FencesMove (s.processReply p x cap r) := by
  rw [State.processReply_of_leaving h]
  have announced : s.FencesMove (s.restartedAnnounce p r.restarted) := .of_eq (by simp) (by simp)
  exact announced.trans (State.endExchange_moves _ p .idle)

/-- Every command but FENCE_CLEARING, a good Reply and a reset inserts and clears no fence. -/
theorem Effect.fencesMove {c : Instr} (h : Effect s c t) :
    s.FencesMove t ∨ t = s.clearFences ∨ (∃ p x cap r, t = s.processReply p x cap r) ∨ t.fences.list = [] := by
  cases h with
  | stays => exact .inl .refl
  | reset => exact .inr (.inr (.inr rfl))
  | clearing h => exact .inr (.inl rfl)
  | goodReply p received x cap r => exact .inr (.inr (.inl ⟨p, x, cap, r, rfl⟩))
  | linkMark l received a =>
    have written : s.FencesMove (s.setRef (linkReference l) { s.ref (linkReference l) with arriving := none }) := .of_eq rfl rfl
    exact .inl (written.trans (State.linkMark_fenceMoves _ _ _ _))
  | pulseMark =>
    have chosen : s.FencesMove s.choose := .of_eq rfl rfl
    exact .inl (chosen.trans (State.judgeMark_fenceMoves _ _ _ _))
  | missMark r => exact .inl (.of_eq (s.missMark_followers r) (s.missMark_fences r))
  | boundary =>
    have counted : s.FencesMove ({ s with boundaries := s.boundaries + 1 } : State) := .of_eq rfl rfl
    refine .inl (counted.trans (.of_stands ?_ fun i => (State.deliverBoundary_ends _).stands i State.goneBy_nil))
    rw [State.deliverBoundary_fences]
    exact .refl _
  | expiry k => exact .inl (s.expireAt_moves k.val)
  | drop k => exact .inl (s.dropFenceAt_moves k.val)
  | announceFails p =>
    have rests : s.FencesMove (s.setPort p ((s.port p).rest .idle)) := .of_eq rfl rfl
    exact .inl (rests.trans (.of_eq (State.decrementBudget_followers _ p) (State.decrementBudget_fences _ p)))
  | unsolicited p =>
    have counted : s.FencesMove (s.setPort p { s.port p with unsolicited := (s.port p).unsolicited + 1 }) := .of_eq rfl rfl
    exact .inl (counted.trans (.of_eq (State.decrementBudget_followers _ p) (State.decrementBudget_fences _ p)))
  | exchangeStart p i =>
    have due : s.FencesMove (s.setFollower i { s.follower i with nextDue := s.nextDueAfter (s.follower i) (s.rack p).drift.state }) :=
      .setFollower _ id
    exact .inl (due.trans (.of_eq rfl rfl))
  | echoFault p x attempt hx => exact .inl (s.faultExchange_moves hx _ _)
  | timeout p x hx => exact .inl (s.faultExchange_moves hx _ _)
  | badReply p received x cap k hx => exact .inl (s.faultExchange_moves hx _ _)
  | verdictEnd p x =>
    have removed : s.FencesMove (s.removeCarried x.carried) := .of_stands (.filter _ _) fun i => ⟨rfl, .rfl, .rfl⟩
    exact .inl (removed.trans (State.endExchange_moves _ p .idle))
  | guardTrip p => exact .inl ((s.leaveRunning_moves p .halted).trans (.of_eq rfl rfl))
  | enrol port slot o p k kind i =>
    refine .inl (.answer (.setFollower _ ?_) _ _)
    exact fun _ => nofun
  | amendFollower b presence o =>
    exact .inl (.answer (.setFollower _ fun h e => h ((Follower.keeps_amend _ _ _).vacant.mp e)) _ _)
  | mute b =>
    refine .inl (.answer (.setFollower _ ?_) _ _)
    exact fun _ => nofun
  | unmute b =>
    refine .inl (.answer (.setFollower _ ?_) _ _)
    exact fun _ => nofun
  | retireLater b =>
    refine .inl (.answer (.setFollower _ ?_) _ _)
    exact fun _ => nofun
  | retireNow b => exact .inl (.answer (s.vacate_moves _) _ _)
  | noticeRead i =>
    refine .inl (.answer (.setFollower _ ?_) _ _)
    exact id
  | order b kind k =>
    refine .inl (.answer (.setFollower _ ?_) _ _)
    exact id
  | amendRack hc p presence o =>
    have amended : s.FencesMove (s.setRack p ((s.rack p).amend presence o)) := .of_eq rfl rfl
    have drift := amended.trans (.of_eq (State.amendDrift_followers p presence o) (State.amendDrift_fences _ p presence o))
    exact .inl (.answer (drift.trans (State.amendEnabled_moves _ p _)) _ _)
  | amendRow presence o => exact .inl (.answer (s.amendRow_moves _ _) _ _)
  | restartRow => exact .inl (.answer s.restartRow_moves _ _)
  | warmUpEnd => exact .inl (.of_eq (by simp [State.endWarmUp]) (by simp [State.endWarmUp]))
  | _ => exact .inl (.of_eq (by simp) (by simp))

end Moves

end Sys2Proof.Machine

/-! PROOFS. What a good Reply does to the Fence List, and the two statements on it (R135, R137 to R139, R144). -/

namespace Sys2Proof.Machine

variable {s t : State} {p : RackId} {i : FollowerId} {x : Exchange} {cap : Capture} {r : Reply}

/-! ## Clearing (R138, R139) -/

/-- A fence is Cleared that was Cleared before, or that passes the Due test now. -/
def State.ClearedFrom (s : State) (l : List Fence) (t : State) : Prop :=
  ∀ f ∈ t.fences.list, f.state = .cleared →
    f ∈ l ∨ (s.row.state ≠ .free ∧ unitsPerNs * (f.bound + s.row.currentUr) < s.row.fine ∧ f.lastChange = s.row.whole)

theorem State.clearedFrom_clearFences (s : State) : s.ClearedFrom s.fences.list s.clearFences := by
  intro f hf hc
  obtain ⟨g, hg, rfl⟩ := List.mem_map.mp hf
  rcases s.clearFence_cases g with e | ⟨hclear, e⟩
  · rw [e]
    exact .inl hg
  · rw [State.clearable_iff] at hclear
    rw [e]
    exact .inr ⟨hclear.2.1, hclear.2.2, rfl⟩

/-- Stage 5 clears what passes the Due test, or nothing (R138). -/
theorem State.clearBeforeVerdict_cases (s : State) :
    (s.clearBeforeVerdict.fences = s.fences ∨ s.clearBeforeVerdict.fences = s.clearFences.fences) ∧
    s.clearBeforeVerdict.followers = s.followers := by
  unfold State.clearBeforeVerdict
  split
  · split
    · exact ⟨.inr rfl, rfl⟩
    · exact ⟨.inl rfl, rfl⟩
  · exact ⟨.inl rfl, rfl⟩

/-! ## Asks (R137, R138) -/

/-- What an answer to an ask does to the Fence List: nothing, or a Held fence finds room and is inserted. -/
theorem State.answerAsk_cases (s : State) (p : RackId) (i : FollowerId) (c : Capture) (t3 : Nat) (a : Ask) :
    (s.answerAsk p i c t3 a).1 = s ∨
    s.fences.list.length < 64 ∧ ∃ tag bound, (s.answerAsk p i c t3 a).1 = s.insertFence i tag bound := by
  cases a with
  | date tag capture => exact .inl rfl
  | fence tag bound =>
    dsimp only [State.answerAsk]
    split
    · rename_i h
      refine .inr ⟨?_, tag, bound, rfl⟩
      by_contra full
      unfold State.fenceAnswer at h
      rw [if_pos (Nat.not_lt.mp full)] at h
      repeat' split at h
      all_goals cases h
    · exact .inl rfl

theorem State.answerAsks_cleared (s : State) (c : Capture) (t3 : Nat) (asks : List Ask) {f : Fence}
    (hf : f ∈ (s.answerAsks p i c t3 asks).1.fences.list) (hc : f.state = .cleared) : f ∈ s.fences.list := by
  induction asks generalizing s with
  | nil => exact hf
  | cons a asks ih =>
    have one := ih (s.answerAsk p i c t3 a).1 hf
    rcases s.answerAsk_cases p i c t3 a with e | ⟨-, tag, bound, e⟩
    · rwa [e] at one
    · rw [e, State.insertFence_list, mem_insertByBound] at one
      rcases one with rfl | one
      · cases hc
      · exact one

theorem State.afterStages_fences : (s.afterStages p x cap r).fences = s.fences := by
  simp [State.afterStages]

/-- What a good Reply clears (R138, R139). -/
theorem State.clearedFrom_processReply (s : State) : s.ClearedFrom s.fences.list (s.processReply p x cap r) := by
  have verdict {u : State} (hrow : u.row = s.row) (hl : ∀ f ∈ u.fences.list, f.state = .cleared → f ∈ s.fences.list)
      (l : List Notice) : s.ClearedFrom s.fences.list (u.clearBeforeVerdict.sendVerdict p x l) := by
    intro f hf hc
    rw [State.sendVerdict_fences] at hf
    rcases u.clearBeforeVerdict_cases.1 with h | h
    · exact .inl (hl f (h ▸ hf) hc)
    · rcases u.clearedFrom_clearFences f (h ▸ hf) hc with hin | hdue
      · exact .inl (hl f hin hc)
      · exact .inr (hrow ▸ hdue)
  by_cases ha : (s.follower x.follower).state.active = true
  · rw [State.processReply_of_active ha]
    refine verdict ?_ (fun f hf hc => ?_) _
    · rw [State.answerAsks_row]
      simp [State.afterStages]
    · exact State.afterStages_fences (s := s) ▸ State.answerAsks_cleared _ cap r.t3 r.asks hf hc
  · by_cases hm : (s.follower x.follower).state = .muted
    · rw [State.processReply_of_muted hm]
      refine verdict (by simp) (fun f hf _ => ?_) _
      rwa [State.orderStage_fences, State.restartedAnnounce_fences] at hf
    · exact fun f hf hc => .inl ((s.processReply_leaving_moves (FollowerState.leaving_of ha hm)).dwindles.cleared f hf hc)

/-- Settles O29: fences are Cleared by a clearing, alone or before a Verdict, and by nothing else. -/
theorem fencesClearOnlyWhenPassed : Obligations.FencesClearOnlyWhenPassed := by
  intro s t h f hf hc
  obtain ⟨pending, wires, n, hcases⟩ := step_cases h
  rcases hcases with rfl | rfl | ⟨v, rfl⟩ | rfl | ⟨c, he, -⟩
  · exact .inl hf
  · exact .inl hf
  · exact .inl hf
  · exact .inl hf
  · rcases he.fencesMove with h | rfl | ⟨p, x, cap, r, rfl⟩ | h
    · exact .inl (h.dwindles.cleared f hf hc)
    · exact s.clearedFrom_clearFences f hf hc
    · exact State.clearedFrom_processReply (s.withQueues pending wires n) f hf hc
    · simp [h] at hf

/-! ## The list stays sound (R135, R144) -/

theorem State.FencesMove.holds (h : s.FencesMove t) (hs : s.FencesHold) : t.FencesHold where
  ordered := by
    have bounds := h.dwindles.keys.map fun k => k.1
    rw [List.map_map, List.map_map] at bounds
    have ordered := hs.ordered
    unfold fencesOrdered at ordered ⊢
    rw [← List.pairwise_map (f := Fence.bound) (R := (· ≤ ·))] at ordered ⊢
    exact ordered.sublist bounds
  room := by
    have length := h.dwindles.keys.length_le
    rw [List.length_map, List.length_map] at length
    exact length.trans hs.room
  named f hf := by
    obtain ⟨g, hg, e⟩ := h.dwindles.exists_key hf
    have same : g.follower = f.follower := congrArg (fun k => k.2.1) e
    exact h.named f hf (same ▸ hs.named g hg)
  serials := by
    have serials := h.dwindles.keys.map fun k => k.2.2
    rw [List.map_map, List.map_map] at serials
    exact hs.serials.sublist serials
  next f hf := by
    obtain ⟨g, hg, e⟩ := h.dwindles.exists_key hf
    have same : g.serial = f.serial := congrArg (fun k => k.2.2) e
    rw [h.dwindles.next, ← same]
    exact hs.next g hg

theorem State.FencesHold.congr (hs : s.FencesHold) (hf : t.followers = s.followers) (hl : t.fences = s.fences) : t.FencesHold :=
  (State.FencesMove.of_eq hf hl).holds hs

theorem State.fencesHold_of_nil (h : s.fences.list = []) : s.FencesHold := by
  constructor <;> simp [h, fencesOrdered]

theorem State.FencesHold.clearFences (hs : s.FencesHold) : s.clearFences.FencesHold where
  ordered := fencesOrdered_map s.clearFence_bound hs.ordered
  room := by
    rw [State.clearFences, show (s.setFences _).fences.list = s.fences.list.map s.clearFence from rfl, List.length_map]
    exact hs.room
  named f hf := by
    obtain ⟨g, hg, rfl⟩ := List.mem_map.mp hf
    rw [State.clearFence_follower]
    exact hs.named g hg
  serials := by
    have same : s.clearFences.fences.list.map (·.serial) = s.fences.list.map (·.serial) := by
      simp [State.clearFences, State.setFences, Function.comp_def]
    rw [same]
    exact hs.serials
  next f hf := by
    obtain ⟨g, hg, rfl⟩ := List.mem_map.mp hf
    rw [State.clearFence_serial]
    exact hs.next g hg

theorem State.FencesHold.insertFence (hs : s.FencesHold) (hv : (s.follower i).state ≠ .vacant) (room : s.fences.list.length < 64)
    (tag : Byte) (bound : Nat) : (s.insertFence i tag bound).FencesHold where
  ordered := insertByBound_ordered hs.ordered
  room := by
    rw [State.insertFence_list, insertByBound_length]
    exact room
  named f hf := by
    rw [State.insertFence_list, mem_insertByBound] at hf
    rcases hf with rfl | hf
    · exact hv
    · exact hs.named f hf
  serials := by
    rw [State.insertFence_list, ((insertByBound_perm _ _).map _).nodup_iff, List.map_cons, List.nodup_cons]
    refine ⟨fun hm => ?_, hs.serials⟩
    obtain ⟨g, hg, e⟩ := List.mem_map.mp hm
    exact absurd e (Nat.ne_of_lt (hs.next g hg))
  next f hf := by
    rw [State.insertFence_list, mem_insertByBound] at hf
    rcases hf with rfl | hf
    · exact Nat.lt_succ_self _
    · exact (hs.next f hf).trans (Nat.lt_succ_self _)

theorem State.FencesHold.answerAsks (hs : s.FencesHold) (hv : (s.follower i).state ≠ .vacant) (c : Capture) (t3 : Nat) (asks : List Ask) :
    (s.answerAsks p i c t3 asks).1.FencesHold := by
  induction asks generalizing s with
  | nil => exact hs
  | cons a asks ih =>
    have one : (s.answerAsk p i c t3 a).1.FencesHold := by
      rcases s.answerAsk_cases p i c t3 a with e | ⟨room, tag, bound, e⟩
      · rwa [e]
      · rw [e]
        exact hs.insertFence hv room tag bound
    refine ih one ?_
    rwa [show (s.answerAsk p i c t3 a).1.follower i = s.follower i by simp [State.follower]]

theorem State.FencesHold.clearBeforeVerdict (hs : s.FencesHold) : s.clearBeforeVerdict.FencesHold := by
  obtain ⟨h | h, hf⟩ := s.clearBeforeVerdict_cases
  · exact hs.congr hf h
  · exact hs.clearFences.congr hf h

theorem State.sendVerdict_fence (hs : s.FencesHold) (l : List Notice) : (s.sendVerdict p x l).FencesHold :=
  hs.congr rfl (s.sendVerdict_fences p x l)

theorem State.FencesHold.processReply (hs : s.FencesHold) : (s.processReply p x cap r).FencesHold := by
  by_cases ha : (s.follower x.follower).state.active = true
  · rw [State.processReply_of_active ha]
    have stages : (s.afterStages p x cap r).FencesHold := by
      refine State.FencesMove.holds (.of_stands (State.afterStages_fences (s := s) ▸ .refl _) fun j => ?_) hs
      by_cases e : x.follower = j
      · subst e
        rw [State.follower_afterStages_self]
        exact State.repliedRecord_stands
      · rw [State.follower_afterStages_ne s p x cap r e]
        exact ⟨rfl, .rfl, .rfl⟩
    refine State.sendVerdict_fence (.clearBeforeVerdict (stages.answerAsks ?_ _ _ _)) _
    rw [State.follower_afterStages_self]
    exact fun e => (FollowerState.active_enrolled ha).1 (State.repliedRecord_stands.vacant.mp e)
  · by_cases hm : (s.follower x.follower).state = .muted
    · rw [State.processReply_of_muted hm]
      refine State.sendVerdict_fence (.clearBeforeVerdict (State.FencesMove.holds (.of_stands ?_ fun j => ?_) hs)) _
      · rw [State.orderStage_fences, State.restartedAnnounce_fences]
        exact .refl _
      · by_cases e : x.follower = j
        · subst e
          rw [State.follower_orderStage_self, State.restartedAnnounce_follower]
          exact (Follower.keeps_ordered _ _ _ _).stands
        · rw [State.follower_orderStage_ne _ _ _ e, State.restartedAnnounce_follower]
          exact ⟨rfl, .rfl, .rfl⟩
    · exact (s.processReply_leaving_moves (FollowerState.leaving_of ha hm)).holds hs

/-- Settles O57: fences are inserted by a good Reply alone, in order and where there is room, and leave with their follower. -/
theorem fenceListStaysOrdered : Obligations.FenceListStaysOrdered := by
  intro s t hs h
  refine step_keeps (fun heq hs => hs.congr heq.followers heq.fences) (fun hs => hs.congr rfl rfl) (fun {s t c} he hs => ?_) hs h
  rcases he.fencesMove with h | rfl | ⟨p, x, cap, r, rfl⟩ | h
  · exact h.holds hs
  · exact hs.clearFences
  · exact hs.processReply
  · exact State.fencesHold_of_nil h

end Sys2Proof.Machine

/-! PROOFS. The machine as a whole: the step, the queues, and the state after a reset. -/

namespace Sys2Proof.Machine

/-! ## The step -/

/-- Settles O1. -/
theorem stepRunsFrontCommand : Obligations.StepRunsFrontCommand := fun _ _ _ => rfl

/-- With both queues empty a step is the idle step. -/
theorem step_idle {s : State} (hp : s.pending = []) (hw : s.wires = []) : step s = s.idle := by
  unfold step
  simp only [hp, hw]

/-- Of two or more due events the idle step takes one, which a free value picks. -/
theorem State.idle_of_several {s : State} (h : 2 ≤ s.dueEvents.length) : ∃ c ∈ s.dueEvents, s.idle = exec c s.choose := by
  unfold State.idle
  split
  · rename_i e; simp [e] at h
  · rename_i c e; simp [e] at h
  · rename_i c d rest e
    have lt : Config.pickDue s.choices % (rest.length + 2) < (c :: d :: rest).length :=
      Nat.mod_lt _ (Nat.succ_pos _)
    refine ⟨(c :: d :: rest)[Config.pickDue s.choices % (rest.length + 2)], by rw [e]; exact List.getElem_mem lt, ?_⟩
    rw [List.getD_eq_getElem _ _ lt]

/-- Settles O2: the idle step by the number of due events. -/
theorem idleStepTakesDueEventOrTicks : Obligations.IdleStepTakesDueEventOrTicks := by
  refine ⟨fun s e rest hp hw => ?_, fun s hp hw => ?_⟩
  · unfold step
    simp only [hp, hw]
  · rw [step_idle hp hw]
    refine ⟨fun h => ?_, fun c h => ?_, State.idle_of_several⟩
    · unfold State.idle; rw [h]
    · unfold State.idle; rw [h]

/-! ## Commands and queues -/

theorem exec_next (c : Instr) (s : State) : ∃ t, exec c s = .next t := by
  cases c <;> exact ⟨_, rfl⟩

section Queues

variable {s t : State} {c : Instr}

theorem State.linkMark_queues (r : Reference) (a : Nat) (m : Option MarkFields) :
    (s.linkMark r a m).pending = s.pending ∧ (s.linkMark r a m).wires = s.wires := by
  unfold State.linkMark
  split <;> simp

theorem State.missMark_queues (r : Reference) : (s.missMark r).pending = s.pending ∧ (s.missMark r).wires = s.wires := by
  dsimp only [State.missMark]
  split <;> simp

theorem State.amendRow_queues (presence : Nat) (o : RowOperands) :
    (s.amendRow presence o).pending = s.pending ∧ (s.amendRow presence o).wires = s.wires := by
  unfold State.amendRow State.amendFences
  dsimp only
  split <;> simp

theorem State.amendEnabled_queues (p : RackId) (enabled : Option Bool) :
    (s.amendEnabled p enabled).pending = s.pending ∧ (s.amendEnabled p enabled).wires = s.wires := by
  unfold State.amendEnabled
  split <;> simp

theorem State.amendDrift_queues (p : RackId) (presence : Nat) (o : RackOperands) :
    (s.amendDrift p presence o).pending = s.pending ∧ (s.amendDrift p presence o).wires = s.wires := by
  unfold State.amendDrift
  split <;> simp

theorem State.selectReference_queues (r : Reference) :
    (s.selectReference r).pending = s.pending ∧ (s.selectReference r).wires = s.wires := by
  unfold State.selectReference
  dsimp only
  split <;> simp

theorem State.designateBackup_queues : s.designateBackup.pending = s.pending ∧ s.designateBackup.wires = s.wires := by
  unfold State.designateBackup
  split <;> simp

/-- No command writes the two queues. -/
theorem Effect.queues (h : Effect s c t) : t.pending = s.pending ∧ t.wires = s.wires := by
  cases h with
  | reset => exact ⟨rfl, rfl⟩
  | warmUpEnd => simp [State.endWarmUp]
  | linkMark => exact State.linkMark_queues _ _ _
  | pulseMark => simp [State.pulseMark]
  | missMark r => exact State.missMark_queues r
  | exchangeStart p i => exact ⟨rfl, rfl⟩
  | amendRack hc p presence o =>
    have drift := State.amendDrift_queues (s := s.setRack p ((s.rack p).amend presence o)) p presence o
    have enabled := State.amendEnabled_queues (s := (s.setRack p ((s.rack p).amend presence o)).amendDrift p presence o) p
      (marked presence 0 o.enabled >>= bitOf)
    exact ⟨enabled.1.trans drift.1, enabled.2.trans drift.2⟩
  | amendRow presence o => exact State.amendRow_queues _ _
  | select b r => exact State.selectReference_queues r
  | setBackup b n => exact State.designateBackup_queues (s := { s with selector := { s.selector with backup := n } })
  | _ => simp

end Queues

/-- Settles O3: the meaning of every command answers a next state, and its effect leaves the queues. -/
theorem everyCommandCompletesAndKeepsQueue : Obligations.EveryCommandCompletesAndKeepsQueue := by
  intro c s
  obtain ⟨t, h⟩ := exec_next c s
  exact ⟨t, h, (exec_effect h).queues⟩

/-! ## Reset -/

theorem State.reset_ref (r : Reference) : State.reset.ref r = .powerOn (if r = .pulse then 100 else 0) := by cases r <;> rfl

theorem State.reset_line (w : Fin 4) : State.reset.lines[w] = .powerOn := by simp [State.reset]

theorem State.reset_rowHolds : State.reset.RowHolds where
  range := by constructor <;> decide
  state := ⟨rfl, rfl, rfl, rfl⟩
  ceilings r := by rw [State.reset_ref]; simp [RefRecord.powerOn]

/-- Settles O60: each block's power-on record is sound. -/
theorem resetMeetsEveryInvariant : Obligations.ResetMeetsEveryInvariant := by
  have vacant (i : FollowerId) : (State.reset.follower i).state = .vacant := by rw [State.reset_follower]; rfl
  have port (p : RackId) : State.reset.port p = .powerOn := by rw [State.port, State.reset_rack]; rfl
  refine ⟨State.reset_rowHolds, State.reset_selectorHolds, fun i => ?_, fun i j hi => ?_, ⟨fun i => ?_, fun p => ?_⟩,
    State.fencesHold_of_nil rfl, ⟨fun p => ?_, fun p x hx => ?_, fun i hi => ?_⟩, fun p => ?_⟩
  · rw [State.reset_follower]; exact Follower.cleared_powerOn.sound
  · exact absurd (vacant i) hi
  · rw [State.reset_follower]; exact ⟨Estimate.empty_inRange, Estimate.empty_inRange⟩
  · rw [port]; decide
  · rw [port]; exact Port.powerOn_sound
  · rw [port] at hx; cases hx
  · rw [vacant] at hi; cases hi
  · rw [State.reset_rack]; exact Drift.powerOn_sound

/-- Settles O4: each clause is read off the power-on records. -/
theorem powerOnResetValues : Obligations.PowerOnResetValues := by
  intro s
  refine ⟨_, rfl, ⟨rfl, rfl, rfl, rfl, rfl, rfl, rfl, rfl, rfl, rfl, rfl, rfl, rfl, rfl, rfl, rfl⟩, fun r => ?_, rfl, rfl, rfl, rfl, rfl,
    State.reset_follower, fun p => ?_, rfl, rfl, rfl, rfl, rfl, rfl, rfl, rfl, fun w => ?_, rfl, rfl, rfl, rfl, rfl, rfl, rfl,
    fun h => ?_, fun h => ?_⟩
  · have e := State.reset_ref r
    simp only [State.ref] at e ⊢
    rw [e]
    exact ⟨rfl, rfl, rfl, rfl, rfl, rfl, rfl, rfl, rfl, rfl⟩
  · have e := State.reset_rack p
    simp only [State.port, State.rack] at e ⊢
    rw [e]
    exact ⟨rfl, rfl, rfl, rfl, rfl, rfl, rfl⟩
  · have e := State.reset_line w
    unfold State.lineHigh
    dsimp only
    rw [e]
    exact ⟨rfl, rfl⟩
  · simp [LinkFrame.afterReset, h]
  · cases hf : s.link.frame with
    | closed => exact absurd hf h
    | _ => rfl

end Sys2Proof.Machine

/-! PROOFS. The Row Clock's own events and its arithmetic: the advance, the boundaries, the timed events (Chapter 2, R167). -/

namespace Sys2Proof.Machine

/-! ## Multiples of row time (R1, R29, R167) -/

section Multiples

variable (r : Row)

theorem Row.lt_multiplesPassed_iff {spacing n : Nat} (h : 0 < spacing) :
    n < r.multiplesPassed spacing ↔ unitsPerNs * (spacing * (n + 1)) < r.fine := by
  have pos : 0 < unitsPerNs * spacing := Nat.mul_pos (by decide) h
  have swap : (n + 1) * (unitsPerNs * spacing) = unitsPerNs * (spacing * (n + 1)) := by ring
  have mul : 0 < (n + 1) * (unitsPerNs * spacing) := Nat.mul_pos (Nat.succ_pos n) pos
  unfold Row.multiplesPassed
  rw [← Nat.succ_le_iff, Nat.le_div_iff_mul_le pos, Nat.succ_eq_add_one, ← swap]
  omega

/-- The last multiple passed is the one whose window may lie open. -/
theorem Row.pulseCondition_iff : r.pulseCondition = true ↔ r.rowSet = true ∧
    ∃ m, 1 ≤ m ∧ unitsPerNs * (second * m) < r.fine ∧ r.fine ≤ unitsPerNs * (pulseHighTime + second * m) := by
  have passed (n : Nat) : n < r.multiplesPassed second ↔ unitsPerNs * (second * (n + 1)) < r.fine :=
    r.lt_multiplesPassed_iff (by decide)
  simp only [Row.pulseCondition, Row.inPulseWindow, Bool.and_eq_true, decide_eq_true_eq]
  refine and_congr_right fun _ => ⟨fun ⟨hm, hle⟩ => ⟨_, hm, ?_, hle⟩, fun ⟨m, h1, hlt, hle⟩ => ?_⟩
  · have last := (passed (r.multiplesPassed second - 1)).mp (by omega)
    rwa [Nat.sub_add_cancel hm] at last
  · have low : m ≤ r.multiplesPassed second := by
      have := (passed (m - 1)).mpr (by rwa [Nat.sub_add_cancel h1])
      omega
    have high : r.multiplesPassed second ≤ m := by
      by_contra hgt
      have := (passed m).mp (Nat.lt_of_not_le hgt)
      simp only [unitsPerNs, second, pulseHighTime] at this hle
      omega
    rw [Nat.le_antisymm high low]
    exact ⟨h1, hle⟩

end Multiples

/-- Settles O7. -/
theorem boundariesAndPulseWindowsAreStrict : Obligations.BoundariesAndPulseWindowsAreStrict := by
  refine ⟨fun s => ?_, Row.pulseCondition_iff⟩
  rw [State.boundaryDue, decide_eq_true_eq, Row.lt_multiplesPassed_iff _ (by decide)]
  rfl

/-! ## The advance (R14) -/

section Advance

variable (r : Row)

/-- What `n` units of oscillator time add to row time, in units of its residue (R14). -/
def Row.gained (r : Row) (n : Nat) : Nat := n * ((ruScale : Int) + r.s).toNat + r.residue

theorem Row.advance_eq (n : Nat) :
    r.advance n = ({ r with residue := r.gained n % ruScale } : Row).setFine (r.fine + r.gained n / ruScale) := rfl

theorem Row.advance_fine (n : Nat) : (r.advance n).fine = min (r.fine + r.gained n / ruScale) topOfTime := by
  rw [Row.advance_eq, Row.setFine_fine]

theorem Row.setFine_min (v : Nat) : r.setFine (min v topOfTime) = r.setFine v := by
  simp only [Row.setFine, min_assoc, min_self]

/-- What two advances add is what one adds, the first one's residue carried. -/
theorem Row.gained_add (a b : Nat) :
    r.gained (a + b) / ruScale = r.gained a / ruScale + (r.advance a).gained b / ruScale ∧
      r.gained (a + b) % ruScale = (r.advance a).gained b % ruScale := by
  have total : r.gained (a + b) = ruScale * (r.gained a / ruScale) + (r.advance a).gained b := by
    have split := Nat.div_add_mod (r.gained a) ruScale
    have next : (r.advance a).gained b = b * ((ruScale : Int) + r.s).toNat + r.gained a % ruScale := rfl
    have both : r.gained (a + b) = b * ((ruScale : Int) + r.s).toNat + r.gained a := by unfold Row.gained; ring
    omega
  rw [total]
  exact ⟨Nat.mul_add_div (by decide) _ _, Nat.mul_add_mod _ _ _⟩

theorem Row.advance_advance (a b : Nat) : (r.advance a).advance b = r.advance (a + b) := by
  obtain ⟨hdiv, hmod⟩ := r.gained_add a b
  have sum : min ((r.advance a).fine + (r.advance a).gained b / ruScale) topOfTime =
      min (r.fine + r.gained (a + b) / ruScale) topOfTime := by
    rw [hdiv, Row.advance_fine]
    generalize r.gained a / ruScale = x, (r.advance a).gained b / ruScale = y, topOfTime = top
    omega
  rw [Row.advance_eq (r.advance a) b, Row.advance_eq r (a + b), ← Row.setFine_min, sum, Row.setFine_min, hmod]
  rfl

/-- Below the top of the range nothing is lost: the residue holds what the fraction cannot. -/
theorem Row.advance_exact (a : Nat) (hs : -16000000000 ≤ r.s) (ht : (r.advance a).fine < topOfTime) :
    16000000000 * ((r.advance a).fine : Int) + (r.advance a).residue = 16000000000 * (r.fine : Int) + r.residue + a * (16000000000 + r.s) := by
  have fine : (r.advance a).fine = r.fine + r.gained a / ruScale := by
    rw [Row.advance_fine] at ht ⊢
    omega
  have residue : (r.advance a).residue = r.gained a % ruScale := rfl
  have gained : (r.gained a : Int) = a * (16000000000 + r.s) + r.residue := by
    unfold Row.gained
    rw [Nat.cast_add, Nat.cast_mul, Int.toNat_of_nonneg (by simp only [ruScale]; omega)]
    rfl
  have parts := Nat.div_add_mod (r.gained a) ruScale
  rw [fine, residue]
  simp only [ruScale] at parts ⊢
  omega

end Advance

/-- Settles O8. -/
theorem advanceIsExactAndAddsUp : Obligations.AdvanceIsExactAndAddsUp :=
  fun r a b => ⟨r.advance_advance a b, r.advance_exact a, rfl, rfl, rfl, rfl⟩

/-! ## Timed events (R16, R26, R27, R46, R160, R167) -/

/-- The part at the end of warm-up, before designation (R16, R32). -/
def State.warmedUp (s : State) : State := { s with
  row := { s.row with state := .acquiring, s := s.row.y }
  link := { s.link with events := { s.link.events with rowStateChanged := true } } }

theorem State.endWarmUp_eq {s : State} (h : s.row.state = .warming) (hu : s.selector.inUse = none) :
    s.endWarmUp = match s.candidate with | some r => s.warmedUp.putInUse r | none => s.warmedUp := by
  have warmed : ({ s with row := { s.row with s := s.row.y } } : State).enterRowState .acquiring = s.warmedUp := by
    rw [State.enterRowState_eq]
    simp [State.warmedUp, h]
  unfold State.endWarmUp
  rw [warmed, State.designate_of_free s.warmedUp (by simp [State.warmedUp]) hu]
  rfl

/-- Settles O5: designation on the row that has left Warming, where there is a candidate and where there is none. -/
theorem warmUpEndEntersAcquiring : Obligations.WarmUpEndEntersAcquiring := by
  intro s hw hz hu
  have due : s.warmUpDue = true := by simp [State.warmUpDue, hw, hz]
  refine ⟨s.endWarmUp, congrArg Host.Outcome.next (if_pos due), ?_⟩
  rw [State.endWarmUp_eq hw hu]
  cases s.candidate with
  | none => exact ⟨rfl, fun _ => ⟨rfl, rfl⟩, nofun, rfl⟩
  | some r => exact ⟨rfl, nofun, by rintro _ ⟨⟩; exact ⟨rfl, rfl⟩, rfl⟩

theorem State.holdoverToFree_eq {s : State} (h : s.row.state = .holdover) :
    s.enterRowState .free = { s with
      row := { s.row with state := .free }, link := { s.link with events := { s.link.events with rowStateChanged := true } } } := by
  rw [State.enterRowState_eq]
  simp [h]

/-- Settles O6: each timed event's own condition, tested and not. -/
theorem timedRowEventsTakeEffect : Obligations.TimedRowEventsTakeEffect := by
  intro s
  have acts {d : Bool} {t : State} (h : d = true) : Host.Outcome.next (if d then t else s) = (.next t : Result) := by rw [if_pos h]
  refine ⟨fun hr hz => acts (by simp [State.startUpDue, hr, hz]), fun hh => ?_, fun hp hw => acts (by simp [State.pulseStartDue, hp, hw]),
    fun hp hw => acts (by simp [State.pulseEndDue, hp, hw])⟩
  have ur : s.row.currentUr = min (s.row.entryUr + ceilDiv (s.row.wander * (s.row.whole - s.row.entryTime)) 16000000000) 4294967295 :=
    s.row.currentUr_of_coasting (.inl hh)
  refine ⟨fun hlt => ?_, fun hle => ?_⟩
  · rw [← State.holdoverToFree_eq hh]
    exact acts (by simp [State.freeDue, hh, ur, hlt])
  · have idle : s.freeDue = false := by
      rw [State.freeDue, ur, decide_eq_false (Nat.not_lt.mpr hle), Bool.and_false]
    exact congrArg Host.Outcome.next (if_neg (by simp [idle]))

end Sys2Proof.Machine

/-! PROOFS. References that leave Usable: what replaces one in use, and what its loss does to the row (R25, R41, R42, R45). -/

namespace Sys2Proof.Machine

/-! ## What replaces a reference that leaves Usable (R45) -/

/-- `q` takes the place of `r`: the selected reference, or else the backup, whichever is Usable and is not `r`. -/
def State.Replaces (s : State) (r q : Reference) : Prop :=
  q ≠ r ∧ (s.ref q).state = .usable ∧
    (q = s.selector.selected ∨ (s.selector.backup = some q ∧ (s.selector.selected = r ∨ (s.ref s.selector.selected).state ≠ .usable)))

/-- A record that becomes Faulted (R41). -/
def RefRecord.faulted (w : RefRecord) : RefRecord := { w with state := .faulted, qualifyCount := 0 }

/-- The part after the in-use reference is lost with none in its place; `x` is the selector before the loss, `events` the events (R25). -/
def State.LosesReference (s : State) (x : Selector) (events : Events) (t : State) : Prop :=
  t.selector = { x with inUse := none } ∧
  (s.row.state = .acquiring ∨ s.row.state = .locked →
    t.row = { s.row with
      entryTime := s.row.whole, entryUr := s.row.ur, s := s.row.y
      state := if s.row.urLimit < s.row.ur then .free else .holdover } ∧
    t.link = { s.link with events := { events with rowStateChanged := true } }) ∧
  (s.row.state ≠ .acquiring → s.row.state ≠ .locked → t.row = s.row ∧ t.link = { s.link with events := events }) ∧
  { t with row := s.row, selector := s.selector, link := s.link } = s

section Faults

variable (s : State) (r : Reference) (w : RefRecord)

/-- The replacement of the in-use reference, and its loss (R45). -/
theorem State.failover_of_some {q : Reference} (h : s.candidate = some q) : s.failover = s.putInUse q := by
  unfold State.failover; rw [h]

/-- No reference is in use any more. -/
def State.withoutReference : State := { s with selector := { s.selector with inUse := none } }

theorem State.failover_of_none (h : s.candidate = none) : s.failover = s.withoutReference.loseReference := by
  unfold State.failover; rw [h]; rfl

/-- The part after a record `w` is written and then faulted, before its replacement. -/
def State.withFault : State := (s.setRef r w.faulted).raise .referenceFaulted

theorem State.withFault_candidate (q : Reference) : (s.withFault r w).candidate = some q ↔ s.Replaces r q := by
  have faulted : (w.faulted.state == RefState.usable) = false := rfl
  have usable (k : Reference) : (s.withFault r w).usable k = true ↔ k ≠ r ∧ (s.ref k).state = .usable := by
    have e : (s.withFault r w).usable k = (s.setRef r w.faulted).usable k := rfl
    rw [e, State.usable_setRef, faulted]
    by_cases h : r = k
    · simp [h]
    · simp [h, Ne.symm h, State.usable]
  have selected : (s.withFault r w).selector.selected = s.selector.selected := by cases r <;> rfl
  have backup : (s.withFault r w).selector.backup = s.selector.backup := by cases r <;> rfl
  rw [State.candidate_eq_some, selected, backup, usable, ← Bool.not_eq_true, usable, State.Replaces, and_assoc]
  refine and_congr_right fun _ => and_congr_right fun _ => or_congr_right ?_
  rw [and_comm]
  refine and_congr_right fun _ => ?_
  rw [not_and_or, not_not]

/-- A Usable reference that is not in use is faulted. -/
theorem State.faultReference_setRef_unused (h : s.selector.inUse ≠ some r) : (s.setRef r w).faultReference r = s.withFault r w := by
  rw [State.faultReference_of_unused _ (by simpa using h), State.setRef_setRef, State.ref_setRef_self]
  rfl

/-- The in-use reference is faulted, and `q` takes its place. -/
theorem State.faultReference_setRef_replaced {q : Reference} (h : s.selector.inUse = some r) (hq : s.Replaces r q) :
    (s.setRef r w).faultReference r = { s with
      selector := { (s.selector.setRef r w.faulted).setRef q { s.ref q with rejects := 0 } with inUse := some q, firstMark := true }
      link := { s.link with events := { s.link.events with referenceFaulted := true, referenceSwitched := true } } } := by
  rw [State.faultReference_of_inUse _ (by simpa using h), State.setRef_setRef, State.ref_setRef_self]
  have ref : (s.withFault r w).ref q = s.ref q := by
    have e : (s.withFault r w).ref q = (s.setRef r w.faulted).ref q := rfl
    rw [e, State.ref_setRef, if_neg hq.1.symm]
  refine (State.failover_of_some (s.withFault r w) ((s.withFault_candidate r w q).mpr hq)).trans ?_
  rw [State.putInUse_eq, ref]
  rfl

/-- The in-use reference is faulted, and none takes its place. -/
theorem State.faultReference_setRef_lost (h : s.selector.inUse = some r) (hq : ∀ q, ¬ s.Replaces r q) :
    s.LosesReference (s.selector.setRef r w.faulted) { s.link.events with referenceFaulted := true } ((s.setRef r w).faultReference r) := by
  rw [State.faultReference_of_inUse _ (by simpa using h), State.setRef_setRef, State.ref_setRef_self]
  have unreplaced : (s.withFault r w).candidate = none :=
    Option.eq_none_iff_forall_ne_some.mpr fun q e => hq q ((s.withFault_candidate r w q).mp e)
  change s.LosesReference _ _ (s.withFault r w).failover
  rw [State.failover_of_none _ unreplaced]
  by_cases hf : s.row.state = .acquiring ∨ s.row.state = .locked
  · rw [(s.withFault r w).withoutReference.loseReference_of_following hf]
    exact ⟨rfl, fun _ => ⟨rfl, rfl⟩, fun h1 h2 => absurd hf (by simp [h1, h2]), rfl⟩
  · rw [not_or] at hf
    rw [(s.withFault r w).withoutReference.loseReference_of_idle hf.1 hf.2]
    exact ⟨rfl, fun hor => absurd hor (by simp [hf.1, hf.2]), fun _ _ => ⟨rfl, rfl⟩, rfl⟩

/-- The results of an inconsistent mark, or of silence, on a record `w` that is Usable (R41, R42, R45). -/
def State.AfterFault (t : State) : Prop :=
  (s.selector.inUse ≠ some r → t = (s.setRef r w.faulted).raise .referenceFaulted) ∧
  (∀ q, s.selector.inUse = some r → s.Replaces r q → t = { s with
    selector := { (s.selector.setRef r w.faulted).setRef q { s.ref q with rejects := 0 } with inUse := some q, firstMark := true }
    link := { s.link with events := { s.link.events with referenceFaulted := true, referenceSwitched := true } } }) ∧
  (s.selector.inUse = some r → (∀ q, ¬ s.Replaces r q) →
    s.LosesReference (s.selector.setRef r w.faulted) { s.link.events with referenceFaulted := true } t)

theorem State.afterFault : s.AfterFault r w ((s.setRef r w).faultReference r) :=
  ⟨s.faultReference_setRef_unused r w, fun _ h hq => s.faultReference_setRef_replaced r w h hq, s.faultReference_setRef_lost r w⟩

end Faults

/-- Settles O15: a Qualifying record falls back, and a Usable one is faulted. -/
theorem silentReferenceIsReplacedOrLost : Obligations.SilentReferenceIsReplacedOrLost := by
  intro s r hlate
  have run (h : (s.ref r).state = .qualifying ∨ (s.ref r).state = .usable) : exec (.missingMarkExpiry r) s = .next (s.missMark r) := by
    have due : s.missingDue r = true := by
      have past : s.row.past (missingMarkInterval + (s.ref r).lastArrival) = true := decide_eq_true hlate
      simpa [State.missingDue, past] using h
    exact congrArg Host.Outcome.next (if_pos due)
  have faults (h : (s.ref r).state = .usable) :
      ∃ t, exec (.missingMarkExpiry r) s = .next t ∧ s.AfterFault r (s.ref r) t := by
    have miss : s.missMark r = s.faultReference r := by simp only [State.missMark, h]
    refine ⟨_, (run (.inr h)).trans (congrArg _ miss), ?_⟩
    simpa using s.afterFault r (s.ref r)
  refine ⟨fun h => ?_, fun h hu => ?_, fun q h hu hq => ?_, fun h hu hq => ?_⟩
  · rw [run (.inl h)]
    simp only [State.missMark, h]
  · obtain ⟨t, ht, unused, -, -⟩ := faults h
    exact ht.trans (congrArg _ (unused hu))
  · obtain ⟨t, ht, -, replaced, -⟩ := faults h
    exact ht.trans (congrArg _ (replaced q hu hq))
  · obtain ⟨t, ht, -, -, lost⟩ := faults h
    exact ⟨t, ht, lost hu hq⟩

/-! ## Inconsistent marks (R37, R40, R41) -/

section Inconsistent

variable (s : State) (r : Reference)

theorem State.inconsistentMark_of_usable (h : (s.ref r).state = .usable) : s.inconsistentMark r = s.faultReference r := by
  unfold State.inconsistentMark; simp only [h]

theorem State.inconsistentMark_of_qualifying (h : (s.ref r).state = .qualifying) :
    s.inconsistentMark r = s.setRef r { s.ref r with qualifyCount := 0 } := by
  unfold State.inconsistentMark; simp only [h]

theorem State.inconsistentMark_of_idle (h : (s.ref r).state = .absent ∨ (s.ref r).state = .faulted) : s.inconsistentMark r = s := by
  unfold State.inconsistentMark
  rcases h with h | h <;> simp only [h]

/-- The results of an inconsistent mark; `w` is the record with what the mark records (R41, R45). -/
theorem State.inconsistentMark_results (w : RefRecord) {t : State} (ht : t = (s.setRef r w).inconsistentMark r) :
    (w.state = .absent ∨ w.state = .faulted → t = s.setRef r w) ∧
    (w.state = .qualifying → t = s.setRef r { w with qualifyCount := 0 }) ∧
    (w.state = .usable → s.selector.inUse ≠ some r → t = (s.setRef r w.faulted).raise .referenceFaulted) ∧
    (∀ q, w.state = .usable → s.selector.inUse = some r → s.Replaces r q → t = { s with
      selector := { (s.selector.setRef r w.faulted).setRef q { s.ref q with rejects := 0 } with inUse := some q, firstMark := true }
      link := { s.link with events := { s.link.events with referenceFaulted := true, referenceSwitched := true } } }) ∧
    (w.state = .usable → s.selector.inUse = some r → (∀ q, ¬ s.Replaces r q) →
      s.LosesReference (s.selector.setRef r w.faulted) { s.link.events with referenceFaulted := true } t) := by
  have ref : (s.setRef r w).ref r = w := by simp
  have usable (h : w.state = .usable) : s.AfterFault r w t := by
    rw [ht, State.inconsistentMark_of_usable _ _ (ref.symm ▸ h)]
    exact s.afterFault r w
  refine ⟨fun h => ?_, fun h => ?_, fun h => (usable h).1, fun q h => (usable h).2.1 q, fun h => (usable h).2.2⟩
  · rw [ht, State.inconsistentMark_of_idle _ _ (ref.symm ▸ h)]
  · rw [ht, State.inconsistentMark_of_qualifying _ _ (ref.symm ▸ h), ref, State.setRef_setRef]

theorem State.loseReference_choose : s.choose.loseReference = s.loseReference.choose := by
  unfold State.loseReference
  have e : s.choose.row.state = s.row.state := rfl
  rw [e]
  cases s.row.state <;> rfl

theorem State.faultReference_choose : s.choose.faultReference r = (s.faultReference r).choose := by
  by_cases h : s.selector.inUse = some r
  · rw [State.faultReference_of_inUse _ h, State.faultReference_of_inUse s.choose h]
    have e : ((s.choose.setRef r { s.choose.ref r with state := .faulted, qualifyCount := 0 }).raise .referenceFaulted) =
      ((s.setRef r { s.ref r with state := .faulted, qualifyCount := 0 }).raise .referenceFaulted).choose := rfl
    rw [e]
    generalize (s.setRef r { s.ref r with state := .faulted, qualifyCount := 0 }).raise .referenceFaulted = t
    cases hc : t.candidate with
    | none =>
      rw [t.failover_of_none hc, t.choose.failover_of_none hc]
      exact t.withoutReference.loseReference_choose
    | some q =>
      rw [t.failover_of_some hc, t.choose.failover_of_some hc]
      rfl
  · rw [State.faultReference_of_unused _ h, State.faultReference_of_unused s.choose h]
    rfl

/-- A free value taken before an inconsistent mark is judged changes nothing else (log entry 7). -/
theorem State.inconsistentMark_choose : s.choose.inconsistentMark r = (s.inconsistentMark r).choose := by
  cases h : (s.ref r).state with
  | usable => rw [s.inconsistentMark_of_usable r h, s.choose.inconsistentMark_of_usable r h, s.faultReference_choose]
  | qualifying => rw [s.inconsistentMark_of_qualifying r h, s.choose.inconsistentMark_of_qualifying r h]; rfl
  | absent => rw [s.inconsistentMark_of_idle r (.inl h), s.choose.inconsistentMark_of_idle r (.inl h)]
  | faulted => rw [s.inconsistentMark_of_idle r (.inr h), s.choose.inconsistentMark_of_idle r (.inr h)]

/-- A mark that is recorded but not consistent (R38, R40). -/
theorem State.judgeMark_inconsistent (m : Mark) :
    s.judgeMark r m false = (s.setRef r ((s.ref r).record m false)).inconsistentMark r := rfl

end Inconsistent

/-- A link mark that fails a condition of R37. -/
theorem RefRecord.linkConsistent_false {v : RefRecord} {m : Mark} (h : m.label % 1000000000 ≠ 0 ∨ v.ceiling < m.declaredU ∨
    (v.state ≠ .absent ∧ v.state ≠ .faulted ∧ m.label ≠ 1000000000 + v.lastLabel)) : v.linkConsistent m = false := by
  rw [Bool.eq_false_iff]
  intro hc
  simp only [RefRecord.linkConsistent, Bool.and_eq_true, Bool.or_eq_true, decide_eq_true_eq, beq_iff_eq, second] at hc
  obtain ⟨⟨hl, hu⟩, hs⟩ := hc
  rcases h with h | h | ⟨ha, hf, hn⟩
  · exact h (of_decide_eq_true hl)
  · omega
  · rcases hs with (hs | hs) | hs
    · exact ha hs
    · exact hf hs
    · exact hn hs

/-- A Pulse mark that fails a condition of R40. -/
theorem RefRecord.pulseConsistent_false {v : RefRecord} {m : Mark} (h : v.ceiling < v.fixedU ∨ (v.state ≠ .absent ∧ v.state ≠ .faulted ∧
    (m.arrival < 999900000 + v.lastArrival ∨ 1000100000 + v.lastArrival < m.arrival))) : v.pulseConsistent m = false := by
  rw [Bool.eq_false_iff]
  intro hc
  simp only [RefRecord.pulseConsistent, Bool.and_eq_true, Bool.or_eq_true, decide_eq_true_eq, beq_iff_eq] at hc
  obtain ⟨hu, hs⟩ := hc
  rcases h with h | ⟨ha, hf, hn⟩
  · omega
  · rcases hs with (hs | hs) | hs
    · exact ha hs
    · exact hf hs
    · omega

/-- A reception that ends while a mark is being received. -/
theorem State.exec_linkMarkReceptionEnd (s : State) (l : LinkInput) (received : List Byte) {a : Nat}
    (ha : (s.ref (linkReference l)).arriving = some a) :
    exec (.linkMarkReceptionEnd l received) s =
      .next ((s.setRef (linkReference l) { s.ref (linkReference l) with arriving := none }).linkMark (linkReference l) a
        (parseMark received)) := by
  change execLinkMarkReceptionEnd l received s = _
  unfold execLinkMarkReceptionEnd
  dsimp only
  rw [ha]

theorem State.heldInstant_of_le (s : State) {n : Nat} (h : n ≤ instantMax) : s.heldInstant n = n := if_neg (Nat.not_lt.mpr h)

/-- Settles O14: an unreadable mark records nothing, any other inconsistent mark records what it carries. -/
theorem inconsistentMarksSetBackOrFault : Obligations.InconsistentMarksSetBackOrFault := by
  intro s r
  refine ⟨fun l received a hr ha hparse => ?_, fun l received a f hr ha hparse hbad => ?_, fun hr hset hbad hlabel => ?_⟩
  · subst hr
    refine ⟨_, s.exec_linkMarkReceptionEnd l received ha, s.inconsistentMark_results _ _ ?_⟩
    rw [hparse]
    rfl
  · subst hr
    refine ⟨_, s.exec_linkMarkReceptionEnd l received ha, s.inconsistentMark_results _ _ ?_⟩
    have judged : RefRecord.linkConsistent { s.ref (linkReference l) with arriving := none } ⟨f.label, f.declaredU, a⟩ = false :=
      RefRecord.linkConsistent_false hbad
    rw [hparse, State.linkMark]
    dsimp only
    rw [State.ref_setRef_self, judged, State.judgeMark_inconsistent, State.ref_setRef_self, State.setRef_setRef]
    rfl
  · subst hr
    let m : Mark := ⟨(pulseLabelExact s.now (s.ref .pulse).compensation).toNat, (s.ref .pulse).fixedU, s.now⟩
    have held : s.heldInstant (pulseLabelExact s.now (s.ref .pulse).compensation).toNat = m.label := s.heldInstant_of_le hlabel
    have judged : (s.ref .pulse).pulseConsistent m = false := RefRecord.pulseConsistent_false hbad
    have run : exec .pulseEdge s = .next s.pulseMark := congrArg Host.Outcome.next (if_pos hset)
    have result : s.pulseMark = ((s.setRef .pulse ((s.ref .pulse).record m false)).inconsistentMark .pulse).choose := by
      rw [← State.inconsistentMark_choose, State.pulseMark, held, judged]
      rfl
    have choices := State.inconsistentMark_choices (s.setRef .pulse ((s.ref .pulse).record m false)) .pulse
    refine ⟨(s.setRef .pulse ((s.ref .pulse).record m false)).inconsistentMark .pulse, ?_, choices, s.inconsistentMark_results _ _ rfl⟩
    rw [run, result, State.choose, choices]
    rfl

end Sys2Proof.Machine

/-! PROOFS. Consistent marks: recorded, designating, passed or rejected; and the requests on references (R36, R38 to R48). -/

namespace Sys2Proof.Machine

/-! ## The record after a consistent mark (R38, R40, R41) -/

/-- The record of a reference after its consistent mark `m`, delivered by `c`: a link mark's reception has ended. -/
def RefRecord.marked (v : RefRecord) (m : Mark) (c : Instr) : RefRecord :=
  { (v.record m true).qualify with arriving := if c = .pulseEdge then v.arriving else none }

/-- The record after a consistent mark, field by field. -/
theorem RefRecord.marked_eq (v : RefRecord) (m : Mark) (c : Instr) : v.marked m c = { v with
    arriving := if c = .pulseEdge then v.arriving else none
    lastLabel := m.label, lastU := m.declaredU, lastArrival := m.arrival
    lastError := (m.label : Int) + v.compensation - m.arrival
    state := match v.state with
      | .absent | .faulted => .qualifying
      | .qualifying => if v.qualifyCount < 4 then .qualifying else .usable
      | .usable => .usable
    qualifyCount := match v.state with
      | .absent | .faulted => 1
      | .qualifying => if v.qualifyCount < 4 then v.qualifyCount + 1 else 5
      | .usable => v.qualifyCount } := by
  have state : (v.record m true).state = v.state := rfl
  have count : (v.record m true).qualifyCount = v.qualifyCount := rfl
  unfold RefRecord.marked RefRecord.qualify
  rw [state, count]
  cases hv : v.state with
  | qualifying => by_cases h : v.qualifyCount < 4 <;> simp [h, Nat.not_le.mpr, Nat.le_of_not_lt, RefRecord.record, RefRecord.phaseError]
  | _ => simp [RefRecord.record, RefRecord.phaseError, hv]

/-- The arrival being received plays no part in the count of a mark. -/
theorem RefRecord.qualify_arriving (v : RefRecord) (a : Option Nat) :
    RefRecord.qualify { v with arriving := a } = { v.qualify with arriving := a } := by
  rcases v with ⟨state, count, _, _, _, _, _, _, _, _, _⟩
  cases state with
  | qualifying => by_cases h : 4 ≤ count <;> simp [RefRecord.qualify, h]
  | _ => rfl

theorem RefRecord.marked_link (v : RefRecord) (m : Mark) (l : LinkInput) (received : List Byte) :
    v.marked m (.linkMarkReceptionEnd l received) = (RefRecord.record { v with arriving := none } m true).qualify :=
  (RefRecord.qualify_arriving (v.record m true) none).symm

theorem RefRecord.marked_pulse (v : RefRecord) (m : Mark) : v.marked m .pulseEdge = (v.record m true).qualify :=
  (RefRecord.qualify_arriving (v.record m true) v.arriving).symm

section Delivered

variable {s : State} {c : Instr} {r : Reference} {m : Mark}

/-- The part that a consistent mark is judged in: a Pulse edge has taken a free value. -/
def State.delivered (s : State) (c : Instr) (r : Reference) (m : Mark) : State :=
  (if c = .pulseEdge then s.choose else s).setRef r ((s.ref r).marked m c)

/-- What a delivered consistent mark does: it is recorded, and then it is the in-use reference's or it designates one (R43, R46). -/
theorem State.Delivers.exec (h : s.Delivers c r m) : exec c s = .next
    (if s.selector.inUse = some r then (s.delivered c r m).inUseMark r ((s.ref r).phaseError m) m.declaredU
      else (s.delivered c r m).designate) := by
  rcases h with ⟨l, received, f, rfl, rfl, ha, hparse, hlabel, hu, hc⟩ | ⟨rfl, rfl, hset, harr, hu, hlabel, hle, hc⟩
  · rw [s.exec_linkMarkReceptionEnd l received ha, hparse, State.linkMark]
    have mark : (⟨f.label, f.declaredU, m.arrival⟩ : Mark) = m := by rw [← hlabel, ← hu]
    have judged : RefRecord.linkConsistent { s.ref (linkReference l) with arriving := none } m = true := hc
    dsimp only
    rw [mark, State.ref_setRef_self, judged, State.judgeMark, if_pos rfl, State.consistentMark, State.ref_setRef_self, State.setRef_setRef,
      State.setRef_selector, Selector.setRef_inUse]
    rw [← RefRecord.marked_link _ m l received]
    rfl
  · have held : s.heldInstant (pulseLabelExact s.now (s.ref .pulse).compensation).toNat = m.label := by
      rw [hlabel]; exact s.heldInstant_of_le (hlabel ▸ hle)
    have mark : (⟨m.label, (s.ref .pulse).fixedU, s.now⟩ : Mark) = m := by rw [← harr, ← hu]
    have run : exec .pulseEdge s = .next s.pulseMark := congrArg Host.Outcome.next (if_pos hset)
    rw [run, State.pulseMark, held, mark, hc, State.delivered, if_pos rfl, RefRecord.marked_pulse]
    rfl

/-- What the delivery of a mark writes. -/
theorem State.delivered_eq (s : State) (c : Instr) (r : Reference) (m : Mark) : s.delivered c r m = { s with
    selector := s.selector.setRef r ((s.ref r).marked m c), choices := if c = .pulseEdge then s.choices + 1 else s.choices } := by
  unfold State.delivered
  split <;> rfl

/-- The reference that R46 names in the part that has recorded the mark. -/
theorem State.delivered_candidate (q : Reference) : (s.delivered c r m).candidate = some q ↔
    let u := s.selector.setRef r ((s.ref r).marked m c)
    (u.ref q).state = .usable ∧ (q = u.selected ∨ (u.backup = some q ∧ (u.ref u.selected).state ≠ .usable)) := by
  have selector : (s.delivered c r m).selector = s.selector.setRef r ((s.ref r).marked m c) := by rw [State.delivered_eq]
  have usable (k : Reference) : (s.delivered c r m).usable k = true ↔
      ((s.selector.setRef r ((s.ref r).marked m c)).ref k).state = .usable := by
    rw [State.usable_iff, State.ref, selector]
  rw [State.candidate_eq_some, selector, usable, ← Bool.not_eq_true, usable]
  refine and_congr_right fun _ => or_congr_right ?_
  rw [and_comm]

end Delivered

/-- Settles O13: a mark of a reference that is not in use is recorded, and may end a time without a reference. -/
theorem marksOutOfUseAreRecorded : Obligations.MarksOutOfUseAreRecorded := by
  refine ⟨fun l s ha => ?_, fun s hs => congrArg Host.Outcome.next (if_neg (by simp [hs])), fun c s r m hd => ?_⟩
  · change execMarkDelimiterArrival l s = _
    unfold execMarkDelimiterArrival
    dsimp only
    rw [ha]
    rfl
  · intro v w u chosen
    have hw : v.marked m c = w := v.marked_eq m c
    have hu : s.selector.setRef r (v.marked m c) = u := by rw [hw]
    have delivered : s.delivered c r m = { s with selector := u, choices := if c = .pulseEdge then s.choices + 1 else s.choices } := by
      rw [← hu]; exact s.delivered_eq c r m
    have named (q : Reference) : (s.delivered c r m).candidate = some q ↔ chosen q := by
      rw [State.delivered_candidate]
      change (let u := s.selector.setRef r (v.marked m c); (u.ref q).state = .usable ∧ _) ↔ _
      rw [hu]
    have runs (hin : s.selector.inUse ≠ some r) : exec c s = .next (s.delivered c r m).designate := by rw [hd.exec, if_neg hin]
    have idle (hin : s.selector.inUse ≠ some r) (hd : (s.delivered c r m).designate = s.delivered c r m) :
        ∃ t, exec c s = .next t ∧ t.ref r = w ∧ t.selector = u ∧ { t with selector := s.selector, choices := s.choices } = s := by
      refine ⟨_, runs hin, ?_⟩
      rw [hd, delivered]
      refine ⟨?_, rfl, rfl⟩
      rw [State.ref, ← hu, hw]
      cases r <;> rfl
    have inUse : (s.delivered c r m).selector.inUse = s.selector.inUse := by rw [delivered, ← hu]; cases r <;> rfl
    have row : (s.delivered c r m).row = s.row := by rw [delivered]
    refine ⟨fun q hq hne => idle (by simp [hq, hne]) (State.designate_of_busy _ (.inr (by simp [inUse, hq]))), fun hnone => ⟨?_, ?_⟩⟩
    · rintro hidle
      refine idle (by simp [hnone]) ?_
      by_cases hwarm : s.row.state = .warming
      · exact State.designate_of_busy _ (.inl (row.symm ▸ hwarm))
      · have none : (s.delivered c r m).candidate = none :=
          Option.eq_none_iff_forall_ne_some.mpr fun q e => hidle.resolve_left hwarm q ((named q).mp e)
        rw [State.designate_of_free _ (row.symm ▸ hwarm) (inUse.trans hnone), none]
    · intro q hwarm hq
      refine ⟨_, runs (by simp [hnone]), ?_⟩
      rw [State.designate_of_free _ (row.symm ▸ hwarm) (inUse.trans hnone), (named q).mpr hq]
      dsimp only
      rw [State.putInUse_eq, delivered]
      exact ⟨rfl, rfl, rfl⟩

/-! ## Marks of the in-use reference (R18, R20, R43, R44) -/

section InUse

variable (s : State) (r : Reference) (e : Int) (v : Nat)

/-- The part that has used up the exemption of a first mark. -/
def State.unexempted : State := { s with selector := { s.selector with firstMark := false } }

theorem State.inUseMark_of_passed (hw : s.row.state ≠ .warming)
    (hs : s.row.state = .locked → s.selector.firstMark = false → e.natAbs ≤ s.row.sanityLimit) :
    s.inUseMark r e v = s.unexempted.passMark r e v := by
  have sane : ¬ s.insane e s.selector.firstMark = true := by
    simp only [State.insane, Bool.and_eq_true, beq_iff_eq, Bool.not_eq_true', decide_eq_true_eq]
    rintro ⟨⟨hl, hf⟩, hlt⟩
    exact absurd (hs hl hf) (Nat.not_le.mpr hlt)
  unfold State.inUseMark
  dsimp only
  rw [if_neg hw, if_neg sane]
  rfl

theorem State.inUseMark_of_rejected (hl : s.row.state = .locked) (hf : s.selector.firstMark = false)
    (hs : s.row.sanityLimit < e.natAbs) : s.inUseMark r e v = s.unexempted.rejectMark r := by
  have insane : s.insane e s.selector.firstMark = true := by simp [State.insane, hl, hf, hs]
  unfold State.inUseMark
  dsimp only
  rw [if_neg (by simp [hl]), if_pos insane]
  rfl

/-- A passed mark that slews. -/
theorem State.passMark_of_slew (h : e ≤ s.row.stepLimit) :
    s.passMark r e v = (s.choose.setRef r { s.ref r with rejects := 0 }).slewMark e v := by
  have arrival : s.passedArrival r e = (s.ref r).lastArrival := by simp [State.passedArrival, Row.steps, Int.not_lt.mpr h]
  unfold State.passMark
  rw [arrival]
  exact State.usedMark_of_slew _ v h

end InUse

/-- The values that R20 gives the row record, in the terms of the rule. -/
theorem Row.slewMemory_eq (r : Row) (e : Int) :
    r.slewMemory e = max (-160000) (min (r.y + 16 * max e (-(r.stepLimit : Int)) / 2 ^ r.gain) 160000) := by
  simp only [Row.slewMemory, Row.clampedError, floorDiv, clampMag, clampInt, memoryMax, Nat.cast_pow, Nat.cast_ofNat]

theorem RowState.decide_ne (a b : RowState) : decide (a ≠ b) = (b != a) := by cases a <;> cases b <;> rfl

/-- Settles O16: the slew branch on the part that has recorded the mark. -/
theorem usedMarkSlewsTheRow : Obligations.UsedMarkSlewsTheRow := by
  intro c s r m hd hin hw v row e hsane hslew ec y' ur' state'
  have run : exec c s = .next ((s.delivered c r m).inUseMark r e m.declaredU) := by rw [hd.exec, if_pos hin]; rfl
  have delivered := s.delivered_eq c r m
  have ref : (s.delivered c r m).unexempted.ref r = v.marked m c := by
    rw [State.unexempted, delivered]
    cases r <;> rfl
  have passed : (s.delivered c r m).inUseMark r e m.declaredU =
      ((s.delivered c r m).unexempted.choose.setRef r { v.marked m c with rejects := 0 }).slewMark e m.declaredU := by
    rw [State.inUseMark_of_passed _ _ _ _ (by rw [delivered]; exact hw) (by rw [delivered]; cases r <;> exact hsane),
      State.passMark_of_slew _ _ _ _ (by rw [State.unexempted, delivered]; exact hslew), ref]
  have memory : row.slewMemory e = y' := Row.slewMemory_eq row e
  have steer : row.slewSteer e = max (-320000) (min (y' + 8 * ec) 320000) := by rw [Row.slewSteer, memory]; rfl
  have written : ({ row.slewWrites e m.declaredU with state := row.slewState e m.declaredU } : Row) = { row with
      y := y', s := max (-320000) (min (y' + 8 * ec) 320000), ur := ur', rowSet := true, state := state' } := by
    unfold Row.slewWrites
    rw [memory, steer]
    rfl
  have base : (s.delivered c r m).unexempted.choose.setRef r { v.marked m c with rejects := 0 } = { s with
      selector := { s.selector.setRef r { v.marked m c with rejects := 0 } with firstMark := false }
      choices := (s.delivered c r m).choices + 1 } := by
    rw [State.unexempted, delivered]
    cases r <;> rfl
  refine ⟨_, run, ?_⟩
  rw [passed, State.slewMark_eq, base]
  refine ⟨written, ?_, fun x hx => ?_, ?_, ?_, ?_, rfl, ?_, rfl, rfl⟩
  · cases r <;> rfl
  · have other := Selector.ref_setRef s.selector r x { v.marked m c with rejects := 0 }
    rw [if_neg hx.symm] at other
    rw [← show s.selector.ref x = s.ref x from rfl, ← other]
    cases x <;> rfl
  · exact Selector.setRef_selected _ _ _
  · exact Selector.setRef_backup _ _ _
  · exact (Selector.setRef_inUse _ _ _).trans hin
  · dsimp only
    rw [RowState.decide_ne]
    rfl

theorem RefRecord.marked_rejects (v : RefRecord) (m : Mark) (c : Instr) : (v.marked m c).rejects = v.rejects := by
  rw [RefRecord.marked_eq]

/-- The in-use reference after a fault: what is left of the row and who is in use (R45). -/
theorem State.AfterFault.inUse {s t : State} {r : Reference} {w : RefRecord} (h : s.AfterFault r w t)
    (hin : s.selector.inUse = some r) (hl : s.row.state = .locked) :
    (t.row.y = s.row.y ∧ t.row.ur = s.row.ur ∧ t.row.fine = s.row.fine) ∧ t.ref r = w.faulted ∧ t.selector.inUse ≠ some r ∧
      t.link.events.referenceFaulted = true ∧
      (t.selector.inUse = none → t.row.state = if s.row.urLimit < s.row.ur then .free else .holdover) ∧
      (t.selector.inUse ≠ none → t.row = s.row ∧ t.link.events.referenceSwitched = true) := by
  obtain ⟨-, replaced, lost⟩ := h
  by_cases hq : ∃ q, s.Replaces r q
  · obtain ⟨q, hq⟩ := hq
    rw [replaced q hin hq]
    refine ⟨⟨rfl, rfl, rfl⟩, ?_, fun e => hq.1 (Option.some.inj e), rfl, nofun, fun _ => ⟨rfl, rfl⟩⟩
    have other := Selector.ref_setRef (s.selector.setRef r w.faulted) q r { s.ref q with rejects := 0 }
    rw [if_neg hq.1, Selector.ref_setRef_self] at other
    refine Eq.trans ?_ other
    cases r <;> rfl
  · obtain ⟨selector, following, -, -⟩ := lost hin (not_exists.mp hq)
    obtain ⟨row, link⟩ := following (.inr hl)
    have none : t.selector.inUse = .none := by rw [selector]
    refine ⟨?_, ?_, by simp [none], by rw [link], fun _ => by rw [row], fun e => absurd none e⟩
    · rw [row]; exact ⟨rfl, rfl, rfl⟩
    · rw [State.ref, selector]
      cases r <;> rfl

/-- Settles O18: a rejected mark counts, and the third faults its reference. -/
theorem sanityRejectionsFaultTheReference : Obligations.SanityRejectionsFaultTheReference := by
  intro c s r m hd hin hl hf v hlt w
  have delivered := s.delivered_eq c r m
  let u := (s.delivered c r m).unexempted
  have base : u = { s with selector := { s.selector.setRef r (v.marked m c) with firstMark := false }, choices := u.choices } := by
    rw [show u = (s.delivered c r m).unexempted from rfl, State.unexempted, delivered]
  have ref : u.ref r = v.marked m c := by rw [base]; cases r <;> rfl
  have inUse : u.selector.inUse = some r := by rw [base]; exact (Selector.setRef_inUse _ _ _).trans hin
  have row : u.row = s.row := by rw [base]
  have counted : { u.ref r with rejects := (u.ref r).rejects + 1 } = w := by rw [ref, RefRecord.marked_rejects]; rfl
  have rejects : (u.ref r).rejects = v.rejects := by rw [ref, RefRecord.marked_rejects]
  have run : exec c s = .next (u.rejectMark r) := by
    rw [hd.exec, if_pos hin]
    refine congrArg Host.Outcome.next (State.inUseMark_of_rejected _ _ _ _ ?_ ?_ ?_)
    · rw [delivered]; exact hl
    · rw [delivered]; exact (Selector.setRef_firstMark _ _ _).trans hf
    · rw [delivered]; exact hlt
  by_cases third : 3 ≤ v.rejects + 1
  · have faulted : u.rejectMark r = (u.setRef r w).faultReference r := by
      unfold State.rejectMark
      dsimp only
      rw [counted, if_pos (by rw [rejects]; exact third)]
    obtain ⟨⟨hy, hu, ht⟩, results⟩ := (u.afterFault r w).inUse inUse (row.symm ▸ hl)
    rw [row] at hy hu ht results
    exact ⟨_, run.trans (congrArg _ faulted), hy, hu, ht, fun h => absurd third (Nat.not_le.mpr h), fun _ => results⟩
  · have kept : u.rejectMark r = u.setRef r w := by
      unfold State.rejectMark
      dsimp only
      rw [counted, if_neg (by rw [rejects]; exact third)]
    have written : u.setRef r w = { s with selector := { s.selector.setRef r w with firstMark := false }, choices := u.choices } := by
      rw [base]
      cases r <;> rfl
    refine ⟨_, run.trans (congrArg _ (kept.trans written)), rfl, rfl, rfl, fun _ => ⟨?_, rfl, rfl, rfl⟩, fun h => absurd h third⟩
    cases r <;> rfl

end Sys2Proof.Machine

/-! PROOFS. AMEND-REFERENCE, SELECT and SET-BACKUP (R36, R46 to R48). -/

namespace Sys2Proof.Machine

/-! ## Requests once the start-up interval is over (R160) -/

section Requests

variable {s : State}

theorem referenceOf_eq_none {b : Byte} (h : 3 < b.toNat) : referenceOf b = none := by
  have ne (k : Byte) (hk : k.toNat ≤ 3) : b ≠ k := by rintro rfl; omega
  unfold referenceOf
  rw [if_neg (ne _ (by decide)), if_neg (ne _ (by decide)), if_neg (ne _ (by decide)), if_neg (ne _ (by decide))]

theorem exec_amendReference (hr : s.link.ready = true) (b : Byte) (comp ceil fixed : BitVec 32) :
    exec (.amendReference b comp ceil fixed) s = .next (match referenceOf b with
      | some r => (s.setRef r ((s.ref r).amend (r == .pulse) comp ceil fixed)).answer .done []
      | none => s.refuse .range 0) := congrArg Host.Outcome.next (s.request_of_ready _ _ hr)

theorem exec_select (hr : s.link.ready = true) (b : Byte) :
    exec (.select b) s = .next (match referenceOf b with
      | none => s.refuse .range 0
      | some r =>
        if s.row.state = .warming ∨ s.usable r = false ∨ (r = .pulse ∧ s.row.rowSet = false) then s.refuse .state 0
        else (s.selectReference r).answer .done []) := congrArg Host.Outcome.next (s.request_of_ready _ _ hr)

theorem exec_setBackup (hr : s.link.ready = true) (b : Byte) :
    exec (.setBackup b) s = .next (match backupOf b with
      | none => s.refuse .range 0
      | some b =>
        if b = some s.selector.selected then s.refuse .state 0
        else (({ s with selector := { s.selector with backup := b } } : State).designateBackup).answer .done []) :=
  congrArg Host.Outcome.next (s.request_of_ready _ _ hr)

/-- What the operand of SET-BACKUP names (R174). -/
theorem backupOf_eq {b : Byte} {n : Option Reference} (h : n = none ∧ b.toNat = 4 ∨ n.isSome = true ∧ referenceOf b = n) :
    backupOf b = some n := by
  unfold backupOf
  rcases h with ⟨rfl, h⟩ | ⟨hs, h⟩
  · rw [if_pos (BitVec.eq_of_toNat_eq h)]
  · have named : b ≠ 0x04 := by
      rintro rfl
      rw [← h] at hs
      simp [referenceOf] at hs
    obtain ⟨r, rfl⟩ := Option.isSome_iff_exists.mp hs
    rw [if_neg named, h]
    rfl

theorem backupOf_eq_none {b : Byte} (h : 4 < b.toNat) : backupOf b = none := by
  have named : b ≠ 0x04 := by rintro rfl; simp at h
  rw [backupOf, if_neg named, referenceOf_eq_none (by omega)]
  rfl

/-- SELECT of a reference that is not in use puts it in use (R47). -/
theorem State.selectReference_of_unused {r : Reference} (h : s.selector.inUse ≠ some r) : s.selectReference r = { s with
    selector := { (s.selector.select r).setRef r { s.ref r with rejects := 0 } with inUse := some r, firstMark := true }
    link := { s.link with events := { s.link.events with referenceSwitched := true } } } := by
  unfold State.selectReference
  dsimp only
  rw [if_neg h, State.putInUse_eq]
  cases r <;> rfl

theorem State.selectReference_of_inUse {r : Reference} (h : s.selector.inUse = some r) :
    s.selectReference r = { s with selector := s.selector.select r } := if_pos h

/-- The part with another backup named. -/
def State.withBackup (s : State) (n : Option Reference) : State := { s with selector := { s.selector with backup := n } }

theorem State.withBackup_usable (n : Option Reference) (k : Reference) : (s.withBackup n).usable k = s.usable k := by cases k <;> rfl

/-- A newly named backup is not designated where the row or another reference stands in the way (R46, R48). -/
theorem State.designateBackup_idle {n : Option Reference} (h : s.row.state = .warming ∨ s.selector.inUse ≠ none ∨
    (s.ref s.selector.selected).state = .usable ∨ (∀ r, n = some r → (s.ref r).state ≠ .usable)) :
    (s.withBackup n).designateBackup = s.withBackup n := by
  unfold State.designateBackup
  split
  · rfl
  · rename_i hsel
    have selected : s.usable s.selector.selected = false := by
      rw [← Bool.not_eq_true, ← State.withBackup_usable n]; exact hsel
    by_cases busy : s.row.state = .warming ∨ s.selector.inUse ≠ none
    · exact State.designate_of_busy _ busy
    · obtain ⟨hw, hin⟩ := not_or.mp busy
      have none : (s.withBackup n).candidate = none := by
        refine (State.candidate_eq_none _).mpr ⟨(State.withBackup_usable n _).trans selected, fun r hr => ?_⟩
        have unusable : ∀ r, n = some r → (s.ref r).state ≠ .usable := by
          rcases h with h | h | h | h
          · exact absurd h hw
          · exact absurd h hin
          · exact absurd ((s.usable_iff _).mpr h) (by simp [selected])
          · exact h
        rw [State.withBackup_usable, ← Bool.not_eq_true, State.usable_iff]
        exact unusable r hr
      rw [State.designate_of_free (s.withBackup n) hw (not_not.mp hin), none]

/-- Otherwise a Usable one is designated (R46, R48). -/
theorem State.designateBackup_designates {r : Reference} (hw : s.row.state ≠ .warming) (hin : s.selector.inUse = none)
    (hsel : (s.ref s.selector.selected).state ≠ .usable) (hu : (s.ref r).state = .usable) :
    (s.withBackup (some r)).designateBackup = (s.withBackup (some r)).putInUse r := by
  have selected : s.usable s.selector.selected = false := by rw [← Bool.not_eq_true, State.usable_iff]; exact hsel
  have unselected : (s.withBackup (some r)).usable (s.withBackup (some r)).selector.selected = false :=
    (State.withBackup_usable _ _).trans selected
  have named : (s.withBackup (some r)).candidate = some r :=
    (State.candidate_eq_some _ r).mpr ⟨(State.withBackup_usable _ _).trans ((s.usable_iff r).mpr hu), .inr ⟨unselected, rfl⟩⟩
  unfold State.designateBackup
  rw [if_neg (by simp [unselected]), State.designate_of_free (s.withBackup (some r)) hw hin, named]

end Requests

/-- Settles O19. -/
theorem referenceRequestsAct : Obligations.ReferenceRequestsAct := by
  intro s b hr
  refine ⟨fun comp ceil fixed => ⟨fun h => ?_, fun r h => ?_⟩, fun h => ?_, fun r h => ⟨fun hs => ?_, fun hw hu hp => ⟨fun hin => ?_, fun hin => ?_⟩⟩,
    fun h => ?_, fun n h => ⟨fun hn => ?_, fun hn => ⟨fun hidle => ?_, fun r hnr hw hin hsel hu => ?_⟩⟩⟩
  · rw [exec_amendReference hr, referenceOf_eq_none h]; rfl
  · rw [exec_amendReference hr, h]
    cases r <;> rfl
  · rw [exec_select hr, referenceOf_eq_none h]; rfl
  · rw [exec_select hr, h]
    dsimp only
    rw [if_pos]
    · rfl
    · simpa [State.usable] using hs
  · rw [exec_select hr, h]
    dsimp only
    rw [if_neg, State.selectReference_of_inUse hin]
    · rfl
    · simpa [State.usable, hw, hu] using hp
  · rw [exec_select hr, h]
    dsimp only
    rw [if_neg, State.selectReference_of_unused hin]
    · rfl
    · simpa [State.usable, hw, hu] using hp
  · rw [exec_setBackup hr, backupOf_eq_none h]; rfl
  · rw [exec_setBackup hr, backupOf_eq h]
    exact congrArg Host.Outcome.next (if_pos hn)
  · rw [exec_setBackup hr, backupOf_eq h]
    dsimp only
    rw [if_neg hn]
    exact congrArg (fun t => Host.Outcome.next (State.answer t .done [])) (State.designateBackup_idle hidle)
  · subst hnr
    rw [exec_setBackup hr, backupOf_eq h]
    dsimp only
    rw [if_neg hn]
    refine congrArg (fun t => Host.Outcome.next (State.answer t .done [])) ((State.designateBackup_designates hw hin hsel hu).trans ?_)
    cases r <;> rfl

end Sys2Proof.Machine

/-! PROOFS. Drift Watch: the boundary event, the full count of a counter, and the warnings (Chapter 10). -/

namespace Sys2Proof.Machine

/-! ## States that agree in every block -/

/-- A state is the one whose every field it has. -/
theorem State.eq_of_fields {s t : State} (elapsed : t.elapsed = s.elapsed) (row : t.row = s.row) (selector : t.selector = s.selector)
    (followers : t.followers = s.followers) (racks : t.racks = s.racks) (fences : t.fences = s.fences) (link : t.link = s.link)
    (lines : t.lines = s.lines) (pulseWindow : t.pulseWindow = s.pulseWindow) (boundaries : t.boundaries = s.boundaries)
    (choices : t.choices = s.choices) (pending : t.pending = s.pending) (wires : t.wires = s.wires) : t = s := by
  cases s; cases t; simp_all

/-- The link keeps all but its event flags. -/
def State.LinkKept (s t : State) : Prop := { t.link with events := s.link.events } = s.link

section LinkKept

variable {s t u : State}

theorem State.LinkKept.refl : s.LinkKept s := rfl

theorem State.LinkKept.of_eq (h : t.link = s.link) : s.LinkKept t := by unfold State.LinkKept; rw [h]

theorem State.LinkKept.trans (h : s.LinkKept t) (k : t.LinkKept u) : s.LinkKept u := by
  unfold State.LinkKept at *
  rw [← h, ← k]

theorem State.LinkKept.ite {d : Prop} [Decidable d] (h : s.LinkKept t) (k : s.LinkKept u) : s.LinkKept (if d then t else u) := by
  split
  · exact h
  · exact k

theorem State.LinkKept.foldl {α : Type} {op : State → α → State} (h : ∀ (s : State) (a : α), s.LinkKept (op s a)) (l : List α) (s : State) :
    s.LinkKept (l.foldl op s) := by
  induction l generalizing s with
  | nil => exact .refl
  | cons a l ih => exact (h s a).trans (ih _)

variable (s)

theorem State.goStale_link (i : FollowerId) : s.LinkKept (s.goStale i) := by
  unfold State.goStale State.noticeIf
  exact .ite rfl rfl

theorem State.takePersistenceExpiry_link (p : RackId) : s.LinkKept (s.takePersistenceExpiry p) :=
  .ite (.ite rfl rfl) rfl

theorem State.takeCalmExpiry_link (p : RackId) : s.LinkKept (s.takeCalmExpiry p) :=
  .ite (.ite rfl rfl) rfl

theorem State.takeExpiries_link (p : RackId) : s.LinkKept (s.takeExpiries p) :=
  (s.takePersistenceExpiry_link p).trans (State.takeCalmExpiry_link _ p)

theorem State.evaluateRack_link (p : RackId) : s.LinkKept (s.evaluateRack p) :=
  .ite .refl ((s.takeExpiries_link p).trans (.of_eq rfl))

theorem State.ageTest_link : s.LinkKept s.ageTest :=
  .foldl (fun s i => .ite (s.goStale_link i) .refl) _ s

theorem State.deliverBoundary_link : s.LinkKept s.deliverBoundary :=
  s.ageTest_link.trans (.foldl (fun s p => s.evaluateRack_link p) _ _)

end LinkKept

/-! ## The boundary event (R67, R150, R151, R153) -/

/-- The rate and the offset that an evaluation measures, in the terms of R150. -/
theorem meanRateOf_eq (members : List Follower) : meanRateOf members =
    if members.length = 0 then 0 else Int.tdiv ((members.map fun f => f.published.rate).sum) members.length := by
  unfold meanRateOf truncDiv
  simp only [List.length_eq_zero_iff]

theorem widestOffsetOf_eq (members : List Follower) :
    widestOffsetOf members = (members.map fun f => f.published.theta.natAbs).foldl max 0 := by
  rw [List.foldl_map]
  rfl

section Evaluate

variable (d : Drift) (members : List Follower)

/-- The measures and the state after an evaluation, the counters apart. -/
def Drift.measured : Drift := { d with
  members := members.length, meanRate := meanRateOf members, widest := widestOffsetOf members
  state := d.classify members.length (meanRateOf members) (widestOffsetOf members) }

theorem Drift.evaluate_eq : d.evaluate members = (d.measured members).countBoundary := rfl

theorem Drift.countBoundary_eq : d.countBoundary = { d with
    persistence := (match d.state with
      | .unknown => d.persistence | .calm => d.persistence.reload | .leaning | .excess => d.persistence.count)
    calm := (match d.state with
      | .unknown => d.calm | .calm => d.calm.count | .leaning | .excess => d.calm.reload) } := by
  rcases d with ⟨_, _, _, state, _, _, _, _, _, _, _, _, _⟩
  cases state <;> rfl

/-- Taking an expiry leaves the measures' parameters. -/
theorem Drift.classify_taken (n : Nat) (rate : Int) (widest : Nat) :
    d.persistenceTaken.calmTaken.classify n rate widest = d.classify n rate widest := by
  have frame (d : Drift) (p c : Counter) (w : Warning) (a : Bool) :
      Drift.classify { d with persistence := p, calm := c, warning := w, acknowledged := a } n rate widest = d.classify n rate widest := rfl
  have persistence : d.persistenceTaken.classify n rate widest = d.classify n rate widest := by
    unfold Drift.persistenceTaken
    split
    · split
      · exact frame d d.persistence.taken d.calm _ _
      · exact frame d d.persistence.taken d.calm _ _
    · rfl
  rw [← persistence]
  generalize d.persistenceTaken = e
  unfold Drift.calmTaken
  split
  · split
    · exact frame e e.persistence e.calm.taken _ _
    · exact frame e e.persistence e.calm.taken _ _
  · rfl

theorem Drift.taken_of_none (h : d.persistence.standing = false) (h' : d.calm.standing = false) :
    d.persistenceTaken.calmTaken = d := by
  simp [Drift.persistenceTaken, Drift.calmTaken, h, h']

/-- What an evaluation measures, whatever expiry stood before it. -/
theorem Drift.evaluate_measures :
    let e := d.persistenceTaken.calmTaken.evaluate members
    e.members = members.length ∧ e.meanRate = meanRateOf members ∧ e.widest = widestOffsetOf members ∧
      e.state = d.classify members.length (meanRateOf members) (widestOffsetOf members) := by
  rw [Drift.evaluate_eq, Drift.countBoundary_eq]
  exact ⟨rfl, rfl, rfl, d.classify_taken _ _ _⟩

/-- The whole of an evaluation, where no expiry stood before it. -/
theorem Drift.evaluate_whole (h : d.persistence.standing = false) (h' : d.calm.standing = false) :
    let state := d.classify members.length (meanRateOf members) (widestOffsetOf members)
    d.persistenceTaken.calmTaken.evaluate members = { d with
      members := members.length, meanRate := meanRateOf members, widest := widestOffsetOf members, state := state
      persistence := (match state with
        | .unknown => d.persistence | .calm => d.persistence.reload | .leaning | .excess => d.persistence.count)
      calm := (match state with
        | .unknown => d.calm | .calm => d.calm.count | .leaning | .excess => d.calm.reload) } := by
  rw [d.taken_of_none h h', Drift.evaluate_eq, Drift.countBoundary_eq]
  rfl

end Evaluate

theorem Follower.aged_eq (f : Follower) (now : Nat) : f.aged now =
    if (f.state = .settling ∨ f.state = .trusted) ∧ 8 * (125000000 * 2 ^ f.periodClass) < now - f.freshSince
    then { f with state := .stale, noticed := f.noticed || f.notify.onStale } else f := by
  have stale : f.staleByAge now = true ↔
      (f.state = .settling ∨ f.state = .trusted) ∧ 8 * (125000000 * 2 ^ f.periodClass) < now - f.freshSince := by
    simp only [Follower.staleByAge, Bool.and_eq_true, Bool.or_eq_true, beq_iff_eq, decide_eq_true_eq]
    rfl
  unfold Follower.aged
  simp only [stale]

/-- Settles O20. -/
theorem boundaryAgesAndMeasures : Obligations.BoundaryAgesAndMeasures := by
  intro s hdue
  let u : State := { s with boundaries := s.boundaries + 1 }
  have run : exec .boundaryEvent s = .next u.deliverBoundary := congrArg Host.Outcome.next (if_pos hdue)
  have rack (p : RackId) : u.deliverBoundary.rack p = (s.rack p).evaluated (u.deliverBoundary.members p) := by
    rw [State.rack_deliverBoundary, State.members_congr u.deliverBoundary_followers]
    rfl
  refine ⟨_, run, State.deliverBoundary_boundaries u, fun i => ?_, fun p hp => ?_, fun p hp => ?_, ?_, ?_⟩
  · rw [State.follower_deliverBoundary]
    exact Follower.aged_eq _ _
  · exact (rack p).trans (if_pos hp)
  · intro d members n mean widest state'
    have evaluated : u.deliverBoundary.rack p = { s.rack p with drift := d.persistenceTaken.calmTaken.evaluate members } :=
      (rack p).trans (if_neg hp)
    have hmean : meanRateOf members = mean := meanRateOf_eq members
    have hwidest : widestOffsetOf members = widest := widestOffsetOf_eq members
    have measures := d.evaluate_measures members
    have whole := d.evaluate_whole members
    rw [hmean, hwidest] at measures whole
    rw [evaluated]
    exact ⟨measures.1, measures.2.1, measures.2.2.1, measures.2.2.2,
      fun h h' => congrArg (fun e => ({ s.rack p with drift := e } : Rack)) (whole h h')⟩
  · exact State.eq_of_fields (by simp [u]) (by simp [u]) (by simp [u]) rfl rfl (by simp [u]) rfl (by simp [u]) (by simp [u]) rfl
      (by simp [u]) (by simp [u]) (by simp [u])
  · exact u.deliverBoundary_link

/-! ## The full count (R152) -/

/-- A counter that `q` main counts and `r` prescale counts have passed since its reload. -/
def Counter.at (c : Counter) (q r : Nat) : Counter := { c with main := c.mainReload - q, prescale := c.prescaleReload - r }

section Count

variable (c : Counter)

theorem Counter.count_at_prescale {q r : Nat} (h : r < c.prescaleReload) : (c.at q r).count = c.at q (r + 1) :=
  Counter.count_of_prescale _ (Nat.sub_pos_of_lt h)

theorem Counter.count_at_main {q : Nat} (h : q + 1 < c.mainReload) : (c.at q c.prescaleReload).count = c.at (q + 1) 0 :=
  Counter.count_of_main _ (Nat.sub_self _) (by simp only [Counter.at]; omega)

theorem Counter.count_at_last {q : Nat} (h : q + 1 = c.mainReload) :
    (c.at q c.prescaleReload).count = { c.reload with standing := true } :=
  Counter.count_of_expiry _ (Nat.sub_self _) (by simp only [Counter.at]; omega)

/-- Before the full count the counter stands where the count has brought it. -/
theorem Counter.iterate_count (k : Nat) (h : k < c.mainReload * (c.prescaleReload + 1)) :
    ∃ q r, k = q * (c.prescaleReload + 1) + r ∧ r ≤ c.prescaleReload ∧ q < c.mainReload ∧ Counter.count^[k] c.reload = c.at q r := by
  induction k with
  | zero => exact ⟨0, 0, by simp, Nat.zero_le _, Nat.pos_of_mul_pos_right (Nat.lt_of_le_of_lt (Nat.zero_le _) h), rfl⟩
  | succ k ih =>
    obtain ⟨q, r, hk, hr, hq, hc⟩ := ih (by omega)
    rw [Function.iterate_succ_apply', hc]
    by_cases last : r = c.prescaleReload
    · subst last
      have more : q + 1 < c.mainReload := by
        by_contra hge
        have : c.mainReload = q + 1 := by omega
        rw [this, Nat.add_one_mul] at h
        omega
      exact ⟨q + 1, 0, by rw [hk]; ring, Nat.zero_le _, more, c.count_at_main more⟩
    · exact ⟨q, r + 1, by rw [hk]; ring, by omega, hq, c.count_at_prescale (by omega)⟩

/-- At the full count the counter expires and is reloaded at once. -/
theorem Counter.iterate_count_full (h : 1 ≤ c.mainReload) :
    Counter.count^[c.mainReload * (c.prescaleReload + 1)] c.reload = { c.reload with standing := true } := by
  have pos : 0 < c.mainReload * (c.prescaleReload + 1) := Nat.mul_pos h (Nat.succ_pos _)
  obtain ⟨q, r, hk, hr, hq, hc⟩ := c.iterate_count (c.mainReload * (c.prescaleReload + 1) - 1) (by omega)
  have last : q + 1 = c.mainReload := by
    by_contra hne
    have room : (q + 2) * (c.prescaleReload + 1) ≤ c.mainReload * (c.prescaleReload + 1) := Nat.mul_le_mul_right _ (by omega)
    rw [show (q + 2) * (c.prescaleReload + 1) = q * (c.prescaleReload + 1) + 2 * (c.prescaleReload + 1) by ring] at room
    omega
  have full : r = c.prescaleReload := by
    rw [← last, Nat.add_one_mul] at hk
    omega
  have next : c.mainReload * (c.prescaleReload + 1) = (c.mainReload * (c.prescaleReload + 1) - 1) + 1 := by omega
  rw [next, Function.iterate_succ_apply', hc, full, c.count_at_last last]

end Count

/-- Settles O21. -/
theorem countersRunTheirFullCount : Obligations.CountersRunTheirFullCount := by
  refine ⟨fun c => ⟨c.count_of_prescale, c.count_of_main, fun h h' => c.count_of_expiry h (by omega)⟩,
    fun c hm hs => ⟨fun k hk => ?_, c.iterate_count_full hm⟩, fun p => ?_⟩
  · obtain ⟨q, r, -, -, hq, hc⟩ := c.iterate_count k hk
    rw [hc]
    exact ⟨hs, Nat.sub_pos_of_lt hq⟩
  · rw [State.reset_rack]
    exact ⟨rfl, rfl, rfl, rfl⟩

/-! ## Warnings (R153 to R155) -/

section Warnings

variable (s : State) (p : RackId)

theorem exec_ackWarning {s : State} (hr : s.link.ready = true) (b : Byte) :
    exec (.ackWarning b) s = .next (match rackOf b with
      | none => s.refuse .range 0
      | some p =>
        if (s.rack p).drift.warning = .none then s.refuse .state 0
        else (s.setDrift p { (s.rack p).drift with acknowledged := true }).answer .done []) :=
  congrArg Host.Outcome.next (s.request_of_ready _ _ hr)

theorem rackOf_eq_none {b : Byte} (h : 11 < b.toNat) : rackOf b = none := dif_neg (by omega)

theorem rackOf_eq_some {b : Byte} {p : RackId} (h : b.toNat = p.val) : rackOf b = some p := by
  unfold rackOf
  rw [dif_pos (by omega)]
  exact congrArg some (Fin.ext h)

/-- A standing persistence expiry that raises the warning. -/
theorem State.takePersistenceExpiry_of_rise (hs : (s.rack p).drift.persistence.standing = true)
    (h : (s.rack p).drift.warning.rank < (s.rack p).drift.state.level.rank) :
    s.takePersistenceExpiry p = (s.setDrift p { (s.rack p).drift with
      persistence := (s.rack p).drift.persistence.taken, warning := (s.rack p).drift.state.level, acknowledged := false }).raiseRack p .warning := by
  simp [State.takePersistenceExpiry, hs, h]

/-- A standing persistence expiry that leaves the warning. -/
theorem State.takePersistenceExpiry_of_stay (hs : (s.rack p).drift.persistence.standing = true)
    (h : (s.rack p).drift.state.level.rank ≤ (s.rack p).drift.warning.rank) :
    s.takePersistenceExpiry p = s.setDrift p { (s.rack p).drift with persistence := (s.rack p).drift.persistence.taken } := by
  simp [State.takePersistenceExpiry, hs, Nat.not_lt.mpr h]

end Warnings

/-- Settles O22. -/
theorem warningsRiseFallAndAreAcknowledged : Obligations.WarningsRiseFallAndAreAcknowledged := by
  intro s p d marked
  refine ⟨fun hs => ⟨fun hd hw => ?_, fun hd hw => ?_, fun h => ?_⟩, fun hs => ⟨fun hw => ?_, fun hw => ?_⟩,
    fun b hr => ⟨fun hb => ?_, fun hb hw => ?_, fun hb hw => ?_⟩⟩
  · refine congrArg Host.Outcome.next ((s.takePersistenceExpiry_of_rise p hs ?_).trans ?_)
    · show d.warning.rank < d.state.level.rank
      rw [hd, hw]; decide
    · show State.raiseRack (s.setDrift p { d with persistence := d.persistence.taken, warning := d.state.level, acknowledged := false }) p _ = _
      rw [hd]; rfl
  · refine congrArg Host.Outcome.next ((s.takePersistenceExpiry_of_rise p hs ?_).trans ?_)
    · show d.warning.rank < d.state.level.rank
      rw [hd]
      cases e : d.warning with
      | drift => exact absurd e hw
      | _ => decide
    · show State.raiseRack (s.setDrift p { d with persistence := d.persistence.taken, warning := d.state.level, acknowledged := false }) p _ = _
      rw [hd]; rfl
  · refine congrArg Host.Outcome.next (s.takePersistenceExpiry_of_stay p hs ?_)
    show d.state.level.rank ≤ d.warning.rank
    rcases h with ⟨h, hw⟩ | ⟨h, hw⟩ | h | h <;> rw [h]
    · cases e : d.warning with
      | none => exact absurd e hw
      | _ => decide
    · rw [hw]; decide
    · exact Nat.zero_le _
    · exact Nat.zero_le _
  · refine congrArg Host.Outcome.next ?_
    unfold State.takeCalmExpiry
    dsimp only
    rw [if_pos hs, if_neg (not_not.mpr hw)]
    rfl
  · refine congrArg Host.Outcome.next ?_
    unfold State.takeCalmExpiry
    dsimp only
    rw [if_pos hs, if_pos hw]
    rfl
  · rw [exec_ackWarning hr, rackOf_eq_none hb]; rfl
  · rw [exec_ackWarning hr, rackOf_eq_some hb]
    exact congrArg Host.Outcome.next (if_pos hw)
  · rw [exec_ackWarning hr, rackOf_eq_some hb]
    exact congrArg Host.Outcome.next (if_neg hw)

end Sys2Proof.Machine

/-! PROOFS. RESTART-ROW and all it delivers (R30, R31, R69, R96, R143, R156). -/

namespace Sys2Proof.Machine

/-! ## Records (R61, R63, R69) -/

/-- A Retiring record that became Vacant: power-on values, but for the outcome of its order and its notice (R63). -/
theorem Follower.retired_eq (f : Follower) : f.retired = { Follower.powerOn with
    lastOutcome := (match f.pendingOrder with | some o => some (.cancelled, o.kind) | none => f.lastOutcome)
    noticed := f.noticed || (f.pendingOrder.isSome && f.notify.onOrder) } := by
  unfold Follower.retired Follower.ended Follower.vacated
  cases f.pendingOrder <;> simp

/-- The epoch of a row by the record's state (R69). -/
theorem Follower.rowEpoch_cases (f : Follower) (now : Nat) :
    (f.state.active = true → f.rowEpoch now = { f with
      state := .settling, settleCount := f.settleReload, rateBase := false, freshSince := now }) ∧
    (f.state = .muted ∨ f.state = .retiring → f.rowEpoch now = { f with rateBase := false, freshSince := now }) ∧
    (f.state = .vacant → f.rowEpoch now = f) := by
  unfold Follower.rowEpoch
  cases h : f.state <;> simp [FollowerState.active, Follower.epoch, Follower.resettle, h]

/-- A record after the crossing of its exchange, or of none. -/
def State.crossedRecord (s : State) (i : FollowerId) : Follower :=
  if s.goneBy allRacks i then (s.follower i).retired else s.follower i

theorem State.crossedRecord_of_state {s : State} {i : FollowerId} (h : (s.follower i).state ≠ .retiring) : s.crossedRecord i = s.follower i := by
  have stays : s.goneBy allRacks i = false := by simp [State.goneBy, h]
  simp [State.crossedRecord, stays]

/-- What the crossing and the epoch of a restart or of a step leave of each record, by its state before them. -/
theorem State.crossedRecord_rowEpoch (s : State) (i : FollowerId) (now : Nat) :
    ((s.follower i).state.active = true → (s.crossedRecord i).rowEpoch now = { s.follower i with
      state := .settling, settleCount := (s.follower i).settleReload, rateBase := false, freshSince := now }) ∧
    ((s.follower i).state = .muted → (s.crossedRecord i).rowEpoch now = { s.follower i with rateBase := false, freshSince := now }) ∧
    ((s.follower i).state = .retiring → (s.crossedRecord i).rowEpoch now =
      if s.goneBy allRacks i then (s.follower i).retired else { s.follower i with rateBase := false, freshSince := now }) ∧
    ((s.follower i).state = .vacant → (s.crossedRecord i).rowEpoch now = s.follower i) := by
  refine ⟨fun h => ?_, fun h => ?_, fun h => ?_, fun h => ?_⟩
  · rw [State.crossedRecord_of_state (FollowerState.active_enrolled h).2]
    exact ((s.follower i).rowEpoch_cases now).1 h
  · rw [State.crossedRecord_of_state (by simp [h])]
    exact ((s.follower i).rowEpoch_cases now).2.1 (.inl h)
  · unfold State.crossedRecord
    split
    · exact ((s.follower i).retired.rowEpoch_cases now).2.2 rfl
    · exact ((s.follower i).rowEpoch_cases now).2.1 (.inr h)
  · rw [State.crossedRecord_of_state (by simp [h])]
    exact ((s.follower i).rowEpoch_cases now).2.2 h

/-! ## Ports (R84, R96) -/

/-- A port after the crossings and the pending Announces of a step or of a restart. -/
theorem State.port_crossAll (s : State) (p : RackId) :
    ((s.port p).exchange = none → s.crossAll.port p = { s.port p with
      pendingAnnounce := (s.port p).pendingAnnounce || (s.port p).state == .running }) ∧
    ((s.port p).exchange.isSome = true → s.crossAll.port p = { s.port p with
      exchange := none, transmitting := none, activity := .quiet
      pendingAnnounce := (s.port p).pendingAnnounce || (s.port p).state == .running
      quietEnd := some (s.elapsed + elapsedNs (1000 * (s.port p).replyWindow)) }) := by
  have port : s.crossAll.port p = (((s.rack p).crossed s.elapsed).setAnnounce).port := by rw [State.port, State.rack_crossAll]
  rw [port, Rack.setAnnounce_eq]
  unfold Rack.crossed
  refine ⟨fun h => ?_, fun h => ?_⟩
  · have h' : (s.rack p).port.exchange = none := h
    rw [if_neg (by simp [h'])]
    rfl
  · have h' : (s.rack p).port.exchange.isSome = true := h
    rw [if_pos h']
    rfl

/-! ## Drift fields (R156) -/

section Warnings

variable (s : State) (p : RackId)

theorem Drift.persistenceTaken_warning {d : Drift} (h : d.warning ≠ .none) : d.persistenceTaken.warning ≠ .none := by
  unfold Drift.persistenceTaken
  split
  · split
    · rename_i hlt
      intro e
      have rank : d.state.level.rank = 0 := congrArg Warning.rank e
      omega
    · exact h
  · exact h

/-- Taking expiries keeps the reloads of both counters. -/
theorem Drift.taken_reloads (d : Drift) :
    (d.persistenceTaken.calmTaken.persistence.mainReload = d.persistence.mainReload ∧
      d.persistenceTaken.calmTaken.persistence.prescaleReload = d.persistence.prescaleReload) ∧
    (d.persistenceTaken.calmTaken.calm.mainReload = d.calm.mainReload ∧
      d.persistenceTaken.calmTaken.calm.prescaleReload = d.calm.prescaleReload) := by
  have calm (e : Drift) : e.calmTaken.persistence = e.persistence ∧ e.calmTaken.calm.mainReload = e.calm.mainReload ∧
      e.calmTaken.calm.prescaleReload = e.calm.prescaleReload := by
    unfold Drift.calmTaken
    split
    · split <;> exact ⟨rfl, rfl, rfl⟩
    · exact ⟨rfl, rfl, rfl⟩
  have persistence : d.persistenceTaken.calm = d.calm ∧ d.persistenceTaken.persistence.mainReload = d.persistence.mainReload ∧
      d.persistenceTaken.persistence.prescaleReload = d.persistence.prescaleReload := by
    unfold Drift.persistenceTaken
    split
    · split <;> exact ⟨rfl, rfl, rfl⟩
    · exact ⟨rfl, rfl, rfl⟩
  rw [(calm _).1, (calm _).2.1, (calm _).2.2, persistence.1]
  exact ⟨persistence.2, rfl, rfl⟩

theorem Events.raiseRack_warning (e : Events) : (e.raiseRack p .warning).rackWarning.getLsbD p.val = true := by
  have bit : (rackBit p).getLsbD p.val = true := by revert p; decide
  simp [Events.raiseRack, bit]

/-- A restart reports every warning that stood (R156). -/
theorem State.driftRestart_warns (h : (s.rack p).drift.warning ≠ .none) :
    (s.driftRestart p).link.events.rackWarning.getLsbD p.val = true := by
  let u := s.takePersistenceExpiry p
  have warned : (u.rack p).drift.warning ≠ .none := by
    rw [State.rack_takePersistenceExpiry, if_pos rfl]
    exact Drift.persistenceTaken_warning h
  by_cases hs : (u.rack p).drift.calm.standing = true
  · have raised : (s.takeExpiries p).link.events.rackWarning.getLsbD p.val = true := by
      show (u.takeCalmExpiry p).link.events.rackWarning.getLsbD p.val = true
      unfold State.takeCalmExpiry
      dsimp only
      rw [if_pos hs, if_pos warned]
      exact Events.raiseRack_warning p _
    unfold State.driftRestart
    dsimp only
    split
    · exact Events.raiseRack_warning p _
    · exact raised
  · have same : s.takeExpiries p = u := by
      show u.takeCalmExpiry p = u
      unfold State.takeCalmExpiry
      dsimp only
      rw [if_neg hs]
    unfold State.driftRestart
    dsimp only
    rw [same, if_pos warned]
    exact Events.raiseRack_warning p _

theorem State.driftRestarts_warn {l : List RackId} (hp : p ∈ l) (h : (s.rack p).drift.warning ≠ .none) :
    (l.foldl State.driftRestart s).link.events.rackWarning.getLsbD p.val = true := by
  induction l generalizing s with
  | nil => simp at hp
  | cons a l ih =>
    by_cases e : a = p
    · subst e
      exact (State.flagsStand_foldl (fun t a => t.flagsStand_driftRestart a) l (s.driftRestart a)).events.rackWarning _ (s.driftRestart_warns a h)
    · refine ih _ ((List.mem_cons.mp hp).resolve_left (Ne.symm e)) ?_
      rw [State.rack_driftRestart, if_neg e]
      exact h

end Warnings

/-! ## The restart -/

section Restart

variable (s : State)

/-- The part once the row record has been restarted and the crossings made. -/
def State.restartCrossed : State := (({ s with row := s.row.restarted } : State).enterRowState .acquiring).crossAll

theorem State.restartRow_eq : s.restartRow = allRacks.foldl State.driftRestart s.restartCrossed.rowEpochs.voidFences := rfl

theorem State.restartCrossed_follower (i : FollowerId) : s.restartCrossed.follower i = s.crossedRecord i :=
  State.follower_crossAll _ i

theorem State.restartCrossed_now : s.restartCrossed.now = s.row.whole :=
  (congrArg Row.whole (State.crossAll_row (({ s with row := s.row.restarted } : State).enterRowState .acquiring))).trans rfl

/-- The epoch and the voiding leave the racks. -/
theorem State.rack_epochsVoided (p : RackId) : s.rowEpochs.voidFences.rack p = s.rack p :=
  State.rack_congr ((State.voidFences_racks _).trans (State.rowEpochs_racks s)) p

/-- The crossings leave the drift fields. -/
theorem State.crossAll_drift (p : RackId) : (s.crossAll.rack p).drift = (s.rack p).drift := by
  rw [State.rack_crossAll, Rack.setAnnounce_eq]
  unfold Rack.crossed
  split <;> rfl

theorem State.restartCrossed_drift (p : RackId) : (s.restartCrossed.rack p).drift = (s.rack p).drift :=
  State.crossAll_drift (({ s with row := s.row.restarted } : State).enterRowState .acquiring) p

theorem State.restartRow_follower (i : FollowerId) : s.restartRow.follower i = (s.crossedRecord i).rowEpoch s.row.whole := by
  rw [← s.restartCrossed_follower, ← s.restartCrossed_now, ← State.follower_rowEpochs]
  have followers : s.restartRow.followers = s.restartCrossed.rowEpochs.voidFences.followers := by
    rw [State.restartRow_eq]
    exact foldl_keeps State.driftRestart State.followers State.driftRestart_followers allRacks _
  rw [State.follower, followers]
  rfl

theorem State.restartRow_rack (p : RackId) : s.restartRow.rack p = { s.restartCrossed.rack p with drift := (s.rack p).drift.restarted } := by
  rw [State.restartRow_eq, State.rack_driftRestarts, State.rack_epochsVoided, State.restartCrossed_drift]

theorem State.restartRow_port (p : RackId) : s.restartRow.port p = s.restartCrossed.port p := by
  unfold State.port
  rw [State.restartRow_rack]

theorem State.restartRow_fences : s.restartRow.fences = { s.fences with
    list := (s.fences.list.filter fun f => !s.goneBy allRacks f.follower).map fun f =>
      if f.state = .waiting then { f with state := .voidedRestart, lastChange := s.row.whole } else f } := by
  have fences : s.restartRow.fences = s.restartCrossed.rowEpochs.voidFences.fences := by
    rw [State.restartRow_eq]
    exact foldl_keeps State.driftRestart State.fences State.driftRestart_fences allRacks _
  have crossed : s.restartCrossed.rowEpochs.fences = { s.fences with list := s.fences.list.filter fun f => !s.goneBy allRacks f.follower } :=
    (State.rowEpochs_fences _).trans (State.fences_crossAll _)
  have now : s.restartCrossed.rowEpochs.now = s.row.whole := (congrArg Row.whole (State.rowEpochs_row _)).trans s.restartCrossed_now
  rw [fences]
  unfold State.voidFences State.setFences
  rw [crossed, now]

theorem State.restartRow_reports (h : s.row.state ≠ .acquiring) : s.restartRow.link.events.rowStateChanged = true := by
  have entered : (({ s with row := s.row.restarted } : State).enterRowState .acquiring).link.events.rowStateChanged = true := by
    rw [State.enterRowState_eq]
    simp [Row.restarted, h]
  exact (State.flagsStand_restartRow_of_entered s).events.rowStateChanged entered

theorem State.restartRow_warns (p : RackId) (h : (s.rack p).drift.warning ≠ .none) :
    s.restartRow.link.events.rackWarning.getLsbD p.val = true := by
  rw [State.restartRow_eq]
  refine State.driftRestarts_warn _ p (mem_allRacks p) ?_
  rw [State.rack_epochsVoided, State.restartCrossed_drift]
  exact h

end Restart

/-- Settles O12: each block as the crossing, the epoch, the voiding and the drift restart leave it. -/
theorem restartRowDelivers : Obligations.RestartRowDelivers := by
  intro s hr
  have run : exec .restartRow s = .next (if s.row.state = .warming then s.refuse .state 0 else s.restartRow.answer .done []) :=
    congrArg Host.Outcome.next (s.request_of_ready _ _ hr)
  refine ⟨fun hw => run.trans (congrArg _ (if_pos hw)), fun hw => ?_⟩
  intro gone vacant
  have acts := run.trans (congrArg _ (if_neg hw))
  have reports := s.restartRow_reports
  have warns := s.restartRow_warns
  have row := s.restartRow_row
  have record := s.restartRow_follower
  have port := s.restartRow_port
  have rack := s.restartRow_rack
  have fences := s.restartRow_fences
  have selector := s.restartRow_selector
  have lines := s.restartRow_lines
  have boundaries := s.restartRow_boundaries
  have elapsed := s.restartRow_elapsed
  generalize s.restartRow = t at *
  refine ⟨t.answer .done [], acts, rfl, row, reports, fun i => ?_, fun p => ?_, fun p => ?_, fun f hf => ?_, fences, selector, lines,
    boundaries, elapsed⟩
  · rw [State.answer_follower, record i]
    obtain ⟨active, muted, retiring, hvacant⟩ := s.crossedRecord_rowEpoch i s.row.whole
    refine ⟨active, muted, fun h => ?_, hvacant⟩
    rw [retiring h, Follower.retired_eq]
    rfl
  · rw [State.answer_port, port p]
    exact State.port_crossAll (({ s with row := s.row.restarted } : State).enterRowState .acquiring) p
  · rw [State.answer_rack, rack p]
    obtain ⟨⟨pm, pp⟩, cm, cp⟩ := (s.rack p).drift.taken_reloads
    exact ⟨rfl, rfl, pm, pp, cm, cp, warns p⟩
  · have hf' : f ∈ t.fences.list := hf
    rw [fences] at hf'
    obtain ⟨g, -, rfl⟩ := List.mem_map.mp hf'
    split
    · simp
    · assumption

end Sys2Proof.Machine

/-! PROOFS. A used mark that steps the row, and all that the step delivers (R19, R21, R23, R29, R67, R69, R96, R150). -/

namespace Sys2Proof.Machine

/-! ## The order of epoch and boundary (R69, R150) -/

/-- What the age test writes in a record before its epoch, where it comes first (R67, R69). -/
def Follower.lateNotice (f : Follower) (first : Bool) (now : Nat) : Bool := first && f.staleByAge now && f.notify.onStale

section Orders

variable (f : Follower) (now : Nat)

/-- No record is stale by age right after its epoch. -/
theorem Follower.rowEpoch_aged : (f.rowEpoch now).aged now = f.rowEpoch now := by
  have fresh (g : Follower) (h : g.freshSince = now) : g.aged now = g := by
    unfold Follower.aged Follower.staleByAge
    simp [h]
  obtain ⟨active, kept, vacant⟩ := f.rowEpoch_cases now
  cases hs : f.state with
  | vacant =>
    rw [vacant hs]
    unfold Follower.aged Follower.staleByAge
    simp [hs]
  | muted => rw [kept (.inl hs)]; exact fresh _ rfl
  | retiring => rw [kept (.inr hs)]; exact fresh _ rfl
  | _ => rw [active (by simp [hs, FollowerState.active])]; exact fresh _ rfl

theorem Follower.aged_of_settled (h : f.state ≠ .settling) (h' : f.state ≠ .trusted) : f.aged now = f := by
  unfold Follower.aged Follower.staleByAge
  simp [h, h']

/-- An active record that is late at the boundary of a step, and then has its epoch. -/
theorem Follower.aged_rowEpoch (first : Bool) (h : f.state.active = true) :
    (if first then f.aged now else f).rowEpoch now = { f with
      state := .settling, settleCount := f.settleReload, rateBase := false, freshSince := now
      noticed := f.noticed || f.lateNotice first now } := by
  have plain := (f.rowEpoch_cases now).1 h
  unfold Follower.lateNotice
  cases first with
  | false => simp [plain]
  | true =>
    unfold Follower.aged
    by_cases hs : f.staleByAge now = true
    · have stale := (Follower.rowEpoch_cases { f with state := .stale, noticed := f.noticed || f.notify.onStale } now).1 rfl
      simp [hs, stale]
    · simp [hs, plain]

end Orders

/-! ## What a step delivers -/

section Step

variable (s : State) (n : Nat)

/-- The part once the multiples are counted and the crossings made. -/
def State.stepCrossed : State := ({ s with boundaries := s.boundaries + n } : State).crossAll

/-- The boundary of this step comes before its epoch. -/
def State.boundaryFirst : Bool := Config.boundaryFirst (s.stepCrossed n).choices

theorem State.deliverStep_eq :
    s.deliverStep n = if 0 < n then (s.stepCrossed n).epochAndBoundary else (s.stepCrossed n).rowEpochs := rfl

theorem State.epochAndBoundary_eq : s.epochAndBoundary =
    if Config.boundaryFirst s.choices then s.choose.deliverBoundary.rowEpochs else s.choose.rowEpochs.deliverBoundary := rfl

theorem State.deliverStep_of_none (h : n = 0) : s.deliverStep n = (s.stepCrossed n).rowEpochs := by
  rw [State.deliverStep_eq, if_neg (Nat.not_lt.mpr (Nat.le_of_eq h))]

theorem State.deliverStep_of_first (h : 0 < n) (hb : s.boundaryFirst n = true) :
    s.deliverStep n = (s.stepCrossed n).choose.deliverBoundary.rowEpochs := by
  rw [State.deliverStep_eq, if_pos h, State.epochAndBoundary_eq, ← State.boundaryFirst, if_pos hb]

theorem State.deliverStep_of_last (h : 0 < n) (hb : s.boundaryFirst n = false) :
    s.deliverStep n = (s.stepCrossed n).choose.rowEpochs.deliverBoundary := by
  rw [State.deliverStep_eq, if_pos h, State.epochAndBoundary_eq, ← State.boundaryFirst, if_neg (by simp [hb])]

theorem State.stepCrossed_follower (i : FollowerId) : (s.stepCrossed n).follower i = s.crossedRecord i := State.follower_crossAll _ i

theorem State.stepCrossed_now : (s.stepCrossed n).now = s.now :=
  (congrArg Row.whole (State.crossAll_row ({ s with boundaries := s.boundaries + n } : State))).trans rfl

theorem State.stepCrossed_drift (p : RackId) : ((s.stepCrossed n).rack p).drift = (s.rack p).drift :=
  State.crossAll_drift ({ s with boundaries := s.boundaries + n } : State) p

theorem State.deliverStep_boundaries : (s.deliverStep n).boundaries = s.boundaries + n := by
  have counted : (s.stepCrossed n).boundaries = s.boundaries + n :=
    (State.crossAll_boundaries ({ s with boundaries := s.boundaries + n } : State)).trans rfl
  rcases Nat.eq_zero_or_pos n with h | h
  · rw [s.deliverStep_of_none n h, State.rowEpochs_boundaries, counted]
  · cases hb : s.boundaryFirst n with
    | true => rw [s.deliverStep_of_first n h hb, State.rowEpochs_boundaries, State.deliverBoundary_boundaries, State.choose_boundaries, counted]
    | false => rw [s.deliverStep_of_last n h hb, State.deliverBoundary_boundaries, State.rowEpochs_boundaries, State.choose_boundaries, counted]

theorem State.deliverStep_follower (i : FollowerId) : (s.deliverStep n).follower i =
    (if decide (0 < n) && s.boundaryFirst n then (s.crossedRecord i).aged s.now else s.crossedRecord i).rowEpoch s.now := by
  have now : (s.stepCrossed n).choose.now = s.now := by rw [State.choose_now, State.stepCrossed_now]
  have record : (s.stepCrossed n).choose.follower i = s.crossedRecord i := by rw [State.choose_follower, State.stepCrossed_follower]
  rcases Nat.eq_zero_or_pos n with h | h
  · rw [s.deliverStep_of_none n h, State.follower_rowEpochs, s.stepCrossed_follower n, s.stepCrossed_now n]
    simp [h]
  · cases hb : s.boundaryFirst n with
    | true =>
      have later : (s.stepCrossed n).choose.deliverBoundary.now = s.now := (congrArg Row.whole (State.deliverBoundary_row _)).trans now
      rw [s.deliverStep_of_first n h hb, State.follower_rowEpochs, State.follower_deliverBoundary, record, now, later]
      simp [h]
    | false =>
      have later : (s.stepCrossed n).choose.rowEpochs.now = s.now := (congrArg Row.whole (State.rowEpochs_row _)).trans now
      rw [s.deliverStep_of_last n h hb, State.follower_deliverBoundary, State.follower_rowEpochs, record, now, later,
        Follower.rowEpoch_aged]
      simp

/-- What a step leaves of each record, by its state before. -/
theorem State.deliverStep_record (i : FollowerId) :
    let f := s.follower i
    (f.state.active = true → (s.deliverStep n).follower i = { f with
      state := .settling, settleCount := f.settleReload, rateBase := false, freshSince := s.now
      noticed := f.noticed || f.lateNotice (decide (0 < n) && s.boundaryFirst n) s.now }) ∧
    (f.state = .muted → (s.deliverStep n).follower i = { f with rateBase := false, freshSince := s.now }) ∧
    (f.state = .retiring → (s.deliverStep n).follower i =
      if s.goneBy allRacks i then f.retired else { f with rateBase := false, freshSince := s.now }) ∧
    (f.state = .vacant → (s.deliverStep n).follower i = f) := by
  intro f
  obtain ⟨-, muted, retiring, vacant⟩ := s.crossedRecord_rowEpoch i s.now
  have unaged (h : (s.crossedRecord i).state ≠ .settling) (h' : (s.crossedRecord i).state ≠ .trusted) (b : Bool) :
      (if b then (s.crossedRecord i).aged s.now else s.crossedRecord i) = s.crossedRecord i := by
    rw [Follower.aged_of_settled _ _ h h', ite_self]
  rw [State.deliverStep_follower]
  refine ⟨fun h => ?_, fun h => ?_, fun h => ?_, fun h => ?_⟩
  · rw [State.crossedRecord_of_state (FollowerState.active_enrolled h).2]
    exact f.aged_rowEpoch s.now _ h
  · have state : (s.crossedRecord i).state = .muted := by rw [State.crossedRecord_of_state (by rw [show (s.follower i).state = _ from h]; simp)]; exact h
    rw [unaged (by simp [state]) (by simp [state])]
    exact muted h
  · have state : (s.crossedRecord i).state = .retiring ∨ (s.crossedRecord i).state = .vacant := by
      unfold State.crossedRecord
      split
      · exact .inr rfl
      · exact .inl h
    rw [unaged (by rcases state with e | e <;> simp [e]) (by rcases state with e | e <;> simp [e])]
    exact retiring h
  · have state : (s.crossedRecord i).state = .vacant := by rw [State.crossedRecord_of_state (by rw [show (s.follower i).state = _ from h]; simp)]; exact h
    rw [unaged (by simp [state]) (by simp [state])]
    exact vacant h

end Step

end Sys2Proof.Machine

/-! PROOFS. A used mark that steps the row, continued: the racks after a step, the notice of the age test, and the statement (R19, R21, R23, R150). -/

namespace Sys2Proof.Machine

/-! ## The notice of the age test (R67) -/

section AgeTest

variable (s : State) {i : FollowerId}

theorem State.ageTestOne_notices (h : (s.follower i).staleByAge s.now = true) (hn : (s.follower i).notify.onStale = true) :
    (s.ageTestOne i).link.events.followerNotice = true := by
  unfold State.ageTestOne State.goStale State.noticeIf
  rw [if_pos h, if_pos hn]
  rfl

theorem State.ageTests_notice {l : List FollowerId} (hi : i ∈ l) (h : (s.follower i).staleByAge s.now = true)
    (hn : (s.follower i).notify.onStale = true) : (l.foldl State.ageTestOne s).link.events.followerNotice = true := by
  induction l generalizing s with
  | nil => simp at hi
  | cons a l ih =>
    by_cases e : a = i
    · subst e
      exact (State.flagsStand_foldl (fun t a => .ite (t.flagsStand_goStale a) (.refl t)) l _).events.followerNotice (s.ageTestOne_notices h hn)
    · have record : (s.ageTestOne a).follower i = s.follower i := by rw [State.follower_ageTestOne, if_neg e]
      refine ih _ ((List.mem_cons.mp hi).resolve_left (Ne.symm e)) ?_ (by rw [record]; exact hn)
      rw [record, State.now, State.ageTestOne_row]
      exact h

theorem State.deliverBoundary_notices (h : (s.follower i).staleByAge s.now = true) (hn : (s.follower i).notify.onStale = true) :
    s.deliverBoundary.link.events.followerNotice = true := by
  have every : i ∈ allFollowers := by
    unfold allFollowers
    exact List.mem_finRange i
  have tested : s.ageTest.link.events.followerNotice = true := by
    unfold State.ageTest
    exact s.ageTests_notice every h hn
  unfold State.deliverBoundary
  exact (State.flagsStand_foldl State.flagsStand_evaluateRack allRacks s.ageTest).events.followerNotice tested

end AgeTest

/-! ## The members at the boundary of a step (R150) -/

theorem State.followers_toList (s : State) : s.followers.toList = allFollowers.map s.follower := by
  refine List.ext_getElem (by simp [allFollowers]) fun n h h' => ?_
  simp [allFollowers, State.follower]

/-- Records chosen by `P` from one table, and by `Q` from another that agrees with it on them, are the same. -/
theorem filter_map_eq {α : Type} {g k : α → Follower} {P Q : Follower → Bool} (l : List α) (h : ∀ a, P (g a) = Q (k a))
    (same : ∀ a, P (g a) = true → g a = k a) : (l.map g).filter P = (l.map k).filter Q := by
  induction l with
  | nil => rfl
  | cons a l ih =>
    rw [List.map_cons, List.map_cons, List.filter_cons, List.filter_cons, ih, ← h]
    split
    · rw [same a ‹_›]
    · rfl

section Racks

variable (s : State) (n : Nat) (p : RackId)

/-- The members that the boundary of a step finds: those that its age test leaves, and none where the epoch came first. -/
def State.stepMembers : List Follower :=
  if s.boundaryFirst n then s.followers.toList.filter fun f => f.state == .trusted && f.port == p && !f.staleByAge s.now else []

/-- A Trusted record after the age test was Trusted and not late, and is as it was. -/
theorem Follower.aged_trusted (f : Follower) (now : Nat) :
    ((f.aged now).state == .trusted && (f.aged now).port == p) = (f.state == .trusted && f.port == p && !f.staleByAge now) ∧
      ((f.aged now).state = .trusted → f.aged now = f) := by
  unfold Follower.aged
  cases h : f.staleByAge now <;> simp

/-- A record that is Trusted after the crossings was so before, and is as it was. -/
theorem State.crossedRecord_trusted (i : FollowerId) (now : Nat) :
    (((s.crossedRecord i).aged now).state == .trusted && ((s.crossedRecord i).aged now).port == p) =
        ((s.follower i).state == .trusted && (s.follower i).port == p && !(s.follower i).staleByAge now) ∧
      (((s.crossedRecord i).aged now).state = .trusted → (s.crossedRecord i).aged now = s.follower i) := by
  by_cases h : (s.follower i).state = .retiring
  · have state : (s.crossedRecord i).state ≠ .settling ∧ (s.crossedRecord i).state ≠ .trusted := by
      unfold State.crossedRecord
      split
      · simp [Follower.retired_state]
      · simp [h]
    rw [Follower.aged_of_settled _ _ state.1 state.2]
    have retiring : (FollowerState.retiring == FollowerState.trusted) = false := rfl
    simp [h, retiring, state.2]
  · rw [State.crossedRecord_of_state h]
    exact Follower.aged_trusted p _ _

/-- No record is Trusted right after its epoch. -/
theorem Follower.rowEpoch_not_trusted (f : Follower) (now : Nat) : (f.rowEpoch now).state ≠ .trusted := by
  obtain ⟨active, kept, vacant⟩ := f.rowEpoch_cases now
  cases hs : f.state with
  | vacant => rw [vacant hs, hs]; nofun
  | muted => rw [kept (.inl hs)]; simp [hs]
  | retiring => rw [kept (.inr hs)]; simp [hs]
  | _ => rw [active (by simp [hs, FollowerState.active])]; simp

/-- A rack at the boundary of a step. -/
theorem State.deliverStep_rack (h : 0 < n) : (s.deliverStep n).rack p = ((s.stepCrossed n).rack p).evaluated (s.stepMembers n p) := by
  have now : (s.stepCrossed n).choose.now = s.now := by rw [State.choose_now, State.stepCrossed_now]
  have record (i : FollowerId) : (s.stepCrossed n).choose.follower i = s.crossedRecord i := by
    rw [State.choose_follower, State.stepCrossed_follower]
  cases hb : s.boundaryFirst n with
  | true =>
    have members : (s.stepCrossed n).choose.ageTest.members p = s.stepMembers n p := by
      rw [State.stepMembers, hb, if_pos rfl, State.members, State.followers_toList, State.followers_toList]
      refine filter_map_eq allFollowers (fun i => ?_) fun i => ?_
      · rw [State.follower_ageTest, record, now]
        exact (s.crossedRecord_trusted p i s.now).1
      · rw [State.follower_ageTest, record, now, Bool.and_eq_true, beq_iff_eq]
        exact fun e => (s.crossedRecord_trusted p i s.now).2 e.1
    rw [s.deliverStep_of_first n h hb, State.rack_congr (State.rowEpochs_racks _), State.rack_deliverBoundary, members,
      State.rack_congr (State.choose_racks _)]
  | false =>
    have members : (s.stepCrossed n).choose.rowEpochs.ageTest.members p = s.stepMembers n p := by
      rw [State.stepMembers, hb, if_neg (by simp), State.members, State.followers_toList, List.filter_eq_nil_iff]
      intro f hf
      obtain ⟨i, -, rfl⟩ := List.mem_map.mp hf
      have later : (s.stepCrossed n).choose.rowEpochs.now = (s.stepCrossed n).choose.now := congrArg Row.whole (State.rowEpochs_row _)
      rw [State.follower_ageTest, State.follower_rowEpochs, later, Follower.rowEpoch_aged]
      simp [Follower.rowEpoch_not_trusted]
    rw [s.deliverStep_of_last n h hb, State.rack_deliverBoundary, members, State.rack_congr (State.rowEpochs_racks _),
      State.rack_congr (State.choose_racks _)]

theorem State.deliverStep_rack_of_none (h : n = 0) : (s.deliverStep n).rack p = (s.stepCrossed n).rack p := by
  rw [s.deliverStep_of_none n h, State.rack_congr (State.rowEpochs_racks _)]

/-- The crossings write the port alone of a rack. -/
theorem State.stepCrossed_rack : { (s.stepCrossed n).rack p with port := (s.port p) } = s.rack p := by
  have rack : (s.stepCrossed n).rack p = ((s.rack p).crossed s.elapsed).setAnnounce :=
    State.rack_crossAll ({ s with boundaries := s.boundaries + n } : State) p
  rw [rack, Rack.setAnnounce_eq]
  unfold Rack.crossed
  split <;> rfl

/-- A port after the crossings of a step. -/
theorem State.stepCrossed_port :
    ((s.port p).exchange = none → (s.stepCrossed n).port p = { s.port p with
      pendingAnnounce := (s.port p).pendingAnnounce || (s.port p).state == .running }) ∧
    ((s.port p).exchange.isSome = true → (s.stepCrossed n).port p = { s.port p with
      exchange := none, transmitting := none, activity := .quiet
      pendingAnnounce := (s.port p).pendingAnnounce || (s.port p).state == .running
      quietEnd := some (s.elapsed + elapsedNs (1000 * (s.port p).replyWindow)) }) := by
  have crossed := State.port_crossAll ({ s with boundaries := s.boundaries + n } : State) p
  unfold State.stepCrossed
  generalize State.crossAll _ = t at crossed ⊢
  exact crossed

/-- A crossing leaves the state of a port. -/
theorem State.stepCrossed_portState : ((s.stepCrossed n).port p).state = (s.port p).state := by
  obtain ⟨idle, busy⟩ := s.stepCrossed_port n p
  generalize s.stepCrossed n = t at *
  cases h : (s.port p).exchange with
  | none => rw [idle h]
  | some x => rw [busy (by rw [h]; rfl)]

theorem State.deliverStep_port : (s.deliverStep n).port p = (s.stepCrossed n).port p := by
  have none := s.deliverStep_rack_of_none n p
  have some := s.deliverStep_rack n p
  generalize s.deliverStep n = t at none some ⊢
  generalize s.stepCrossed n = u at none some ⊢
  rcases Nat.eq_zero_or_pos n with h | h
  · exact congrArg Rack.port (none h)
  · rw [State.port, some h]
    unfold Rack.evaluated
    split <;> rfl

theorem State.deliverStep_drift_kept (h : n = 0 ∨ (s.port p).state = .disabled) : ((s.deliverStep n).rack p).drift = (s.rack p).drift := by
  have none := s.deliverStep_rack_of_none n p
  have some := s.deliverStep_rack n p
  have drift := s.stepCrossed_drift n p
  have state := s.stepCrossed_portState n p
  generalize s.deliverStep n = t at none some ⊢
  generalize s.stepCrossed n = u at none some drift state
  rcases Nat.eq_zero_or_pos n with h' | h'
  · rw [none h', drift]
  · have disabled : (u.rack p).port.state = .disabled := state.trans (h.resolve_left (Nat.ne_of_gt h'))
    rw [some h', Rack.evaluated, if_pos disabled, drift]

theorem State.deliverStep_drift (h : 0 < n) (hp : (s.port p).state ≠ .disabled) : ((s.deliverStep n).rack p).drift =
    (s.rack p).drift.persistenceTaken.calmTaken.evaluate (s.stepMembers n p) := by
  have some := s.deliverStep_rack n p h
  have drift := s.stepCrossed_drift n p
  have state := s.stepCrossed_portState n p
  generalize s.deliverStep n = t at some ⊢
  generalize s.stepCrossed n = u at some drift state
  have enabled : (u.rack p).port.state ≠ .disabled := fun e => hp (state.symm.trans e)
  rw [some, Rack.evaluated, if_neg enabled, drift]

theorem State.deliverStep_rackFrame :
    { (s.deliverStep n).rack p with port := (s.rack p).port, drift := (s.rack p).drift } = s.rack p := by
  have none := s.deliverStep_rack_of_none n p
  have some := s.deliverStep_rack n p
  have crossed := congrArg (fun r : Rack => { r with drift := (s.rack p).drift }) (s.stepCrossed_rack n p)
  generalize s.deliverStep n = t at none some ⊢
  generalize s.stepCrossed n = u at none some crossed
  rcases Nat.eq_zero_or_pos n with h | h
  · rw [none h]
    exact crossed
  · rw [some h]
    refine Eq.trans ?_ crossed
    unfold Rack.evaluated
    split <;> rfl

/-- A late record of the age test at the boundary of a step has its notice raised. -/
theorem State.deliverStep_notices {i : FollowerId} (h : 0 < n) (hb : s.boundaryFirst n = true) (ha : (s.follower i).state.active = true)
    (hl : (s.follower i).staleByAge s.now = true) (hn : (s.follower i).notify.onStale = true) :
    (s.deliverStep n).link.events.followerNotice = true := by
  have now : (s.stepCrossed n).choose.now = s.now := by rw [State.choose_now, State.stepCrossed_now]
  have record : (s.stepCrossed n).choose.follower i = s.follower i := by
    rw [State.choose_follower, State.stepCrossed_follower, State.crossedRecord_of_state (FollowerState.active_enrolled ha).2]
  rw [s.deliverStep_of_first n h hb, State.rowEpochs_link]
  refine State.deliverBoundary_notices _ (i := i) ?_ ?_
  · rw [record, now]; exact hl
  · rw [record]; exact hn

end Racks

/-! ## The mark that steps (R18, R19, R21) -/

/-- A passed mark that steps. -/
theorem State.passMark_of_step (s : State) (r : Reference) (e : Int) (v : Nat) (h : (s.row.stepLimit : Int) < e) :
    s.passMark r e v = (s.choose.setRef r { s.ref r with
      rejects := 0, lastArrival := s.heldInstant ((s.ref r).lastArrival + e.toNat) }).stepMark e.toNat v := by
  have arrival : s.passedArrival r e = s.heldInstant ((s.ref r).lastArrival + e.toNat) := by
    unfold State.passedArrival Row.steps
    rw [decide_eq_true h, if_pos rfl]
  unfold State.passMark
  rw [arrival]
  exact State.usedMark_of_step _ v h

/-- What a step's row record holds (R19, R21). -/
theorem State.stepRow_fields (s : State) (e u : Nat) :
    (s.stepRow e u).row.fine = min (s.row.fine + 4294967296 * e) topOfTime ∧
      (s.stepRow e u).row.boundariesSince s.row =
        ((s.stepRow e u).row.fine - 1) / (4294967296 * 100000000) - (s.row.fine - 1) / (4294967296 * 100000000) := by
  refine ⟨?_, rfl⟩
  rw [State.stepRow_row]
  exact Row.setFine_fine s.row (s.row.fine + unitsPerNs * e)

/-- Settles O17: the row record by R19, the records, racks and ports by the delivery of the step. -/
theorem usedMarkStepsTheRow : Obligations.UsedMarkStepsTheRow := by
  intro c s r m hd hin hw v row e gone vacant hsane hstep
  have run : exec c s = .next ((s.delivered c r m).inUseMark r e m.declaredU) := by rw [hd.exec, if_pos hin]; rfl
  have delivered := s.delivered_eq c r m
  have ref : (s.delivered c r m).unexempted.ref r = v.marked m c := by
    rw [State.unexempted, delivered]
    cases r <;> rfl
  let arrival := (s.delivered c r m).unexempted.heldInstant ((v.marked m c).lastArrival + e.toNat)
  have held : m.arrival + e ≤ instantMax → arrival = m.arrival + e.toNat := by
    intro h
    have stamp : (v.marked m c).lastArrival = m.arrival := by rw [RefRecord.marked_eq]
    rw [show arrival = _ from State.heldInstant_of_le _ (by rw [stamp]; omega), stamp]
  let w : RefRecord := { v.marked m c with rejects := 0, lastArrival := arrival }
  let b : State := { s with
    selector := { s.selector.setRef r w with firstMark := false }
    choices := (if c = .pulseEdge then s.choices + 1 else s.choices) + 1 }
  have base : (s.delivered c r m).unexempted.choose.setRef r w = b := by
    clear_value arrival
    rw [State.unexempted, delivered]
    cases r <;> rfl
  have passed : (s.delivered c r m).inUseMark r e m.declaredU = b.stepMark e.toNat m.declaredU := by
    rw [State.inUseMark_of_passed _ _ _ _ (by rw [delivered]; exact hw) (by rw [delivered]; cases r <;> exact hsane),
      State.passMark_of_step _ _ _ _ (by rw [State.unexempted, delivered]; exact hstep), ref, base]
  obtain ⟨fine, multiples⟩ := b.stepRow_fields e.toNat m.declaredU
  have stepped := b.stepRow_stepped e.toNat m.declaredU
  have reported := b.stepRow_reported e.toNat m.declaredU
  have row' := b.stepRow_row e.toNat m.declaredU
  have pulse : (b.stepRow e.toNat m.declaredU).pulseWindow = (b.stepRow e.toNat m.declaredU).row.pulseCondition := rfl
  have selector : (b.stepRow e.toNat m.declaredU).selector = b.selector := b.stepRow_selector _ _
  have followers : (b.stepRow e.toNat m.declaredU).followers = s.followers := b.stepRow_followers _ _
  have racks : (b.stepRow e.toNat m.declaredU).racks = s.racks := b.stepRow_racks _ _
  have fences : (b.stepRow e.toNat m.declaredU).fences = s.fences := b.stepRow_fences _ _
  have lines : (b.stepRow e.toNat m.declaredU).lines = s.lines := b.stepRow_lines _ _
  have boundaries : (b.stepRow e.toNat m.declaredU).boundaries = s.boundaries := b.stepRow_boundaries _ _
  have elapsed : (b.stepRow e.toNat m.declaredU).elapsed = s.elapsed := b.stepRow_elapsed _ _
  rw [State.stepMark] at passed
  generalize b.stepRow e.toNat m.declaredU = u at *
  have same : State.Ends [] s u := .of_eq racks followers
  have record (i : FollowerId) : u.follower i = s.follower i := by rw [State.follower, followers]; rfl
  have rack (p : RackId) : u.rack p = s.rack p := State.rack_congr racks p
  have port (p : RackId) : u.port p = s.port p := State.port_congr racks p
  generalize hn : u.row.boundariesSince b.row = n at *
  have gone_eq (i : FollowerId) : u.goneBy allRacks i = gone i := same.goneBy allRacks i
  have trow := u.deliverStep_row n
  have tselector := u.deliverStep_selector n
  have tlines := u.deliverStep_lines n
  have telapsed := u.deliverStep_elapsed n
  have tpulse := u.deliverStep_pulseWindow n
  have tboundaries := u.deliverStep_boundaries n
  have tfences := u.deliverStep_fences n
  have trecord := u.deliverStep_record n
  have tframe := u.deliverStep_rackFrame n
  have tkept := u.deliverStep_drift_kept n
  have tdrift := u.deliverStep_drift n
  have tport := u.deliverStep_port n
  have tnotice {i : FollowerId} := u.deliverStep_notices n (i := i)
  have tflags := (u.flagsStand_deliverStep n).events
  generalize u.deliverStep n = t at *
  have tref : t.ref r = w := by
    rw [State.ref, tselector, selector]
    cases r <;> rfl
  have marked : w = { v.marked m c with rejects := 0, lastArrival := arrival } := rfl
  rw [RefRecord.marked_eq] at marked
  have whole : t.row.whole = u.now := congrArg Row.whole trow
  refine ⟨t, u.boundaryFirst n, run.trans (congrArg _ passed), ?_, ?_, ?_, ?_, ?_, fun he => ?_, ?_, tflags.rowStepped stepped,
    fun hs => tflags.rowStateChanged (reported ?_), fun h => ?_, ?_, ?_, ?_, fun x hx => ?_, ?_, ?_, ?_, fun p => ?_, ?_, ?_, ?_, ?_⟩
  · rw [trow]; exact fine
  · rw [trow, row']; rfl
  · rw [trow, row']; rfl
  · rw [trow, row']; rfl
  · rw [trow, row']; rfl
  · rw [trow, row']
    exact State.heldInstant_of_le _ (by omega)
  · rw [trow, row']; rfl
  · rw [← trow]; exact hs
  · rw [tref, ← held h]
  · rw [tref]
  · rw [tref, marked]
  · rw [tref, marked]
  · have other := Selector.ref_setRef s.selector r x w
    rw [if_neg hx.symm] at other
    rw [State.ref, tselector, selector, ← show s.selector.ref x = s.ref x from rfl, ← other]
    cases x <;> rfl
  · rw [tselector, selector]; exact (Selector.setRef_inUse _ _ _).trans hin
  · rw [tselector, selector]
  · have counted : n = (t.row.fine - 1) / (4294967296 * 100000000) - (row.fine - 1) / (4294967296 * 100000000) := by
      rw [trow]; exact multiples
    intro n' late
    have named : n = n' := counted
    clear_value n'
    subst named
    have late_iff (f : Follower) : late f = (decide (0 < n) && u.boundaryFirst n && f.staleByAge u.now) := by
      show (_ && _ && _ && _) = _
      rw [whole, Bool.and_assoc]
      rfl
    refine ⟨tboundaries.trans (by rw [boundaries]), fun i => ?_, fun p => ?_, fun p hp => ?_, fun p hp hstate => ?_⟩
    · obtain ⟨active, muted, retiring, hvacant⟩ := trecord i
      rw [record] at active muted retiring hvacant
      rw [whole]
      refine ⟨fun h => ?_, fun h hl hs => ?_, muted, fun h => ?_, hvacant⟩
      · rw [active h, late_iff]
        rfl
      · rw [late_iff, Bool.and_eq_true, Bool.and_eq_true, decide_eq_true_eq] at hl
        obtain ⟨⟨hn', hb⟩, hstale⟩ := hl
        exact tnotice hn' hb (by rw [record]; exact h) (by rw [record]; exact hstale) (by rw [record]; exact hs)
      · rw [retiring h, gone_eq]
        exact if_congr Iff.rfl (Follower.retired_eq _) rfl
    · have frame := tframe p
      rw [rack] at frame
      exact frame
    · rw [tkept p (by rw [port]; exact hp), rack]
    · intro d members count mean widest state'
      have found : u.stepMembers n p = members := by
        show (if _ then _ else _) = if _ then _ else _
        by_cases hb : u.boundaryFirst n = true
        · rw [if_pos hb, if_pos hb, followers]
          refine List.filter_congr fun f _ => ?_
          rw [late_iff, hb, decide_eq_true hp]
          rfl
        · rw [if_neg hb, if_neg hb]
      have drift : (t.rack p).drift = d.persistenceTaken.calmTaken.evaluate members := by
        rw [tdrift p hp (by rw [port]; exact hstate), rack, found]
      obtain ⟨m1, m2, m3, m4⟩ := d.evaluate_measures members
      have mean_eq : meanRateOf members = mean := meanRateOf_eq members
      have widest_eq : widestOffsetOf members = widest := widestOffsetOf_eq members
      rw [mean_eq, widest_eq] at m4
      rw [drift]
      refine ⟨m1, m2.trans mean_eq, m3.trans widest_eq, m4, fun hp hc => ?_⟩
      have := d.evaluate_whole members hp hc
      rw [mean_eq, widest_eq] at this
      exact this
  · rw [tport]
    have crossed := u.stepCrossed_port n p
    generalize u.stepCrossed n = z at *
    rw [port, elapsed] at crossed
    exact crossed
  · rw [tfences, fences]
    simp only [gone_eq]
  · rw [tpulse, trow, pulse]
  · rw [telapsed, elapsed]
  · rw [tlines, lines]

end Sys2Proof.Machine

/-! PROOFS. The requests that write a follower record: ENROL, AMEND-FOLLOWER, MUTE and UNMUTE (R54 to R59). -/

namespace Sys2Proof.Machine

/-! ## Operands -/

theorem clampNat_zero (m v : Nat) : clampNat 0 m v = min v m := by
  simp only [clampNat, Nat.zero_max]

theorem slotOf_eq_some {b : Byte} {k : Fin 40} (h : k.val = b.toNat) : slotOf b = some k := by
  unfold slotOf
  rw [dif_pos (by omega)]
  exact congrArg some (Fin.ext h.symm)

theorem kindOf_eq_none {b : Byte} (h : 1 < b.toNat) : kindOf b = none := by
  have ne (v : Byte) (hv : v.toNat ≤ 1) : b ≠ v := fun e => by subst e; omega
  simp [kindOf, ne]

theorem kindOf_eq_some {b : Byte} (h : b.toNat ≤ 1) : kindOf b = some (if b = 0x00 then .server else .storage) := by
  unfold kindOf
  by_cases h0 : b = 0x00
  · rw [if_pos h0, if_pos h0]
  · have h1 : b = 0x01 := by
      have : b.toNat ≠ 0 := fun e => h0 (BitVec.eq_of_toNat_eq e)
      exact BitVec.eq_of_toNat_eq (by show b.toNat = 1; omega)
    rw [if_neg h0, if_pos h1, if_neg h0]

/-! ## ENROL (R54, R55) -/

section Enrol

variable {s : State} {port slot : Byte} {o : FollowerOperands}

theorem exec_enrol_of_range (hr : s.link.ready = true) (h : 11 < port.toNat ∨ 39 < slot.toNat ∨ 1 < o.kind.toNat) :
    exec (.enrol port slot o) s = .next (s.answer .range [0x00]) := by
  refine congrArg Host.Outcome.next ((s.request_of_ready _ _ hr).trans ?_)
  rcases h with h | h | h
  · rw [rackOf_eq_none h]; rfl
  · rw [Option.isNone_iff_eq_none.mp (slotOf_isNone_iff.mpr h)]
    cases rackOf port <;> rfl
  · rw [kindOf_eq_none h]
    cases rackOf port <;> cases slotOf slot <;> rfl

/-- ENROL with operands in range: TAKEN, FULL or the record of the lowest Vacant index. -/
theorem exec_enrol_of_operands {p : RackId} {k : Fin 40} (hr : s.link.ready = true) (hp : p.val = port.toNat) (hk : k.val = slot.toNat)
    (ho : o.kind.toNat ≤ 1) : exec (.enrol port slot o) s = .next (
      if (s.findFollower fun f => f.holds port slot).isSome then s.answer .taken [0x00]
      else match s.findFollower fun f => f.state == .vacant with
        | none => s.answer .full [0x00]
        | some i => (s.setFollower i (enrolled p k (if o.kind = 0x00 then .server else .storage) o s.now)).answer .done [BitVec.ofNat 8 i.val]) := by
  refine congrArg Host.Outcome.next ((s.request_of_ready _ _ hr).trans ?_)
  rw [rackOf_eq_some hp.symm, slotOf_eq_some hk, kindOf_eq_some ho]
  rfl

end Enrol

/-- Settles O23: ENROL by its checks in order. -/
theorem enrolWritesLowestVacantRecord : Obligations.EnrolWritesLowestVacantRecord := by
  intro s port slot o hr held
  refine ⟨exec_enrol_of_range hr, fun hp hs hk => ?_⟩
  have run := exec_enrol_of_operands (p := ⟨port.toNat, by omega⟩) (k := ⟨slot.toNat, by omega⟩) hr rfl rfl hk
  have free (h : ∀ j, ¬ held (s.follower j)) : (s.findFollower fun f => f.holds port slot) = none :=
    State.findFollower_eq_none fun i => Bool.eq_false_iff.mpr fun e => h i (Follower.holds_iff.mp e)
  refine ⟨fun ⟨j, hj⟩ => ?_, fun hfree hfull => ?_, fun i hfree hv hlow p k hp' hk' => ?_⟩
  · have taken : (s.findFollower fun f => f.holds port slot).isSome = true := by
      rw [Option.isSome_iff_ne_none]
      exact fun e => absurd (s.findFollower_none e j) (by rw [Follower.holds_iff.mpr hj]; nofun)
    rw [run, if_pos taken]
  · have full : (s.findFollower fun f => f.state == .vacant) = none := State.findFollower_eq_none fun i => by simp [hfull i]
    rw [run, free hfree, full]
    rfl
  · have lowest : (s.findFollower fun f => f.state == .vacant) = some i :=
      State.findFollower_eq_some (by simp [hv]) fun j hj => by simp [hlow j hj]
    rw [run, free hfree, lowest, show p = ⟨port.toNat, by omega⟩ from Fin.ext hp', show k = ⟨slot.toNat, by omega⟩ from Fin.ext hk']
    simp only [enrolled, enrolWander, clampWander, enrolShift, clampShift, clampClass, clampNat_zero]
    rfl

/-! ## AMEND-FOLLOWER (R56) -/

/-- The marked fields written, one equation for all (R56). -/
theorem Follower.amend_eq (f : Follower) (presence : Nat) (o : FollowerOperands) (hk : presence.testBit 0 = true → o.kind.toNat ≤ 1) :
    f.amend presence o = { f with
      kind := if presence.testBit 0 then (if o.kind = 0x00 then .server else .storage) else f.kind
      periodClass := if presence.testBit 1 then clampClass o.periodClass else f.periodClass
      settleReload := if presence.testBit 2 then clampReload o.reload else f.settleReload
      settleCount := if presence.testBit 2 ∧ f.state = .settling then min f.settleCount (clampReload o.reload) else f.settleCount
      wander := if presence.testBit 3 then clampWander o.wander else f.wander
      shift := if presence.testBit 4 then clampShift o.shift else f.shift
      maxAge := if presence.testBit 5 then clampMaxAge o.maxAge else f.maxAge
      notify := if presence.testBit 6 then notifyOf o.flags else f.notify } := by
  unfold Follower.amend marked
  extract_lets f0 f1 f2 f3 f4 f5
  have kind : f0 = { f with kind := if presence.testBit 0 then (if o.kind = 0x00 then .server else .storage) else f.kind } := by
    cases h : presence.testBit 0 with
    | false => simp [f0, h]
    | true => simp [f0, h, kindOf_eq_some (hk h)]
  have period : f1 = { f0 with periodClass := if presence.testBit 1 then clampClass o.periodClass else f0.periodClass } := by
    cases h : presence.testBit 1 <;> simp [f1, h]
  have reload : f2 = { f1 with
      settleReload := if presence.testBit 2 then clampReload o.reload else f1.settleReload
      settleCount := if presence.testBit 2 ∧ f1.state = .settling then min f1.settleCount (clampReload o.reload) else f1.settleCount } := by
    cases h : presence.testBit 2 <;> simp [f2, h, Follower.amendReload]
  have wander : f3 = { f2 with wander := if presence.testBit 3 then clampWander o.wander else f2.wander } := by
    cases h : presence.testBit 3 <;> simp [f3, h]
  have shift : f4 = { f3 with shift := if presence.testBit 4 then clampShift o.shift else f3.shift } := by
    cases h : presence.testBit 4 <;> simp [f4, h]
  have maxAge : f5 = { f4 with maxAge := if presence.testBit 5 then clampMaxAge o.maxAge else f4.maxAge } := by
    cases h : presence.testBit 5 <;> simp [f5, h]
  have notify : (match if presence.testBit 6 = true then some o.flags else none with
      | some v => ({ f5 with notify := notifyOf v } : Follower) | none => f5) =
      { f5 with notify := if presence.testBit 6 then notifyOf o.flags else f5.notify } := by
    cases h : presence.testBit 6 <;> simp
  refine Eq.trans ?_ (notify.trans ?_)
  · rfl
  · rw [maxAge, shift, wander, reload, period, kind]

section Requests

variable {s : State} {b : Byte} {i : FollowerId}

theorem exec_amendFollower_of_ready (hi : i.val = b.toNat) (hr : s.link.ready = true) (presence : Byte) (o : FollowerOperands) :
    exec (.amendFollower b presence o) s = .next (
      if presence.toNat.testBit 0 && (kindOf o.kind).isNone then s.answer .range []
      else if (s.follower i).state = .vacant ∨ (s.follower i).state = .retiring then s.answer .state []
      else (s.setFollower i ((s.follower i).amend presence.toNat o)).answer .done []) := by
  rw [← followerOf_eq hi]
  exact congrArg Host.Outcome.next (s.request_of_ready _ _ hr)

theorem exec_mute_of_ready (hi : i.val = b.toNat) (hr : s.link.ready = true) : exec (.mute b) s = .next (
    if (s.follower i).state = .vacant ∨ (s.follower i).state = .retiring then s.answer .state []
    else (s.setFollower i { s.follower i with state := .muted }).answer .done []) := by
  rw [← followerOf_eq hi]
  exact congrArg Host.Outcome.next (s.request_of_ready _ _ hr)

theorem exec_unmute_of_ready (hi : i.val = b.toNat) (hr : s.link.ready = true) : exec (.unmute b) s = .next (
    if (s.follower i).state ≠ .muted then s.answer .state []
    else (s.setFollower i { ((s.follower i).epoch s.now).resettle with consecutiveFaults := 0, nextDue := s.now }).answer .done []) := by
  rw [← followerOf_eq hi]
  exact congrArg Host.Outcome.next (s.request_of_ready _ _ hr)

end Requests

/-- Settles O24. -/
theorem amendMuteUnmuteWriteTheRecord : Obligations.AmendMuteUnmuteWriteTheRecord := by
  intro s b i hi hr f
  refine ⟨fun presence o => ?_, fun h => ?_, fun hv ht => ?_, fun h => ?_, fun h => ?_⟩
  · intro has
    have bit (k : Nat) : presence.toNat.testBit k = has k := BitVec.testBit_toNat presence
    have unknown : (presence.toNat.testBit 0 && (kindOf o.kind).isNone) = true ↔ has 0 = true ∧ 1 < o.kind.toNat := by
      rw [bit, Bool.and_eq_true]
      refine and_congr_right fun _ => ⟨fun h => ?_, fun h => by rw [kindOf_eq_none h]; rfl⟩
      by_contra hle
      rw [kindOf_eq_some (Nat.le_of_not_lt hle)] at h
      cases h
    have known (h : has 0 = true → o.kind.toNat ≤ 1) : ¬ (presence.toNat.testBit 0 && (kindOf o.kind).isNone) = true :=
      fun e => absurd (h (unknown.mp e).1) (Nat.not_le.mpr (unknown.mp e).2)
    have run := exec_amendFollower_of_ready hi hr presence o
    refine ⟨fun h0 hk => ?_, fun hk hs => ?_, fun hk hv ht => ?_⟩
    · rw [run, if_pos (unknown.mpr ⟨h0, hk⟩)]
    · rw [run, if_neg (known hk), if_pos hs]
    · intro reload
      rw [run, if_neg (known hk), if_neg (not_or.mpr ⟨hv, ht⟩), Follower.amend_eq _ _ _ (fun h => hk (bit 0 ▸ h))]
      simp only [bit, clampClass, clampWander, clampShift, clampNat_zero]
      cases h2 : has 2 <;> simp only [reload, h2] <;> rfl
  · rw [exec_mute_of_ready hi hr, if_pos h]
  · rw [exec_mute_of_ready hi hr, if_neg (fun e => e.elim hv ht)]
  · rw [exec_unmute_of_ready hi hr, if_pos h]
  · rw [exec_unmute_of_ready hi hr, if_neg (not_not.mpr h)]
    rfl

end Sys2Proof.Machine

/-! PROOFS. The events of the Fence List, the Announces and idle frames of a port, the ends of a Probe and the sweep (R78 to R85, R94 to R96, R139 to R142). -/

namespace Sys2Proof.Machine

/-! ## The Fence List's events (R139, R141, R142) -/

/-- Settles O28. -/
theorem fencesClearExpireAndDrop : Obligations.FencesClearExpireAndDrop := by
  intro s passed
  have clears (f : Fence) : s.clearable f = true ↔ passed f := s.clearable_iff f
  refine ⟨fun ⟨f, hf, hp⟩ => ?_, fun k f hk hpast => ?_⟩
  · have due : s.clearingDue = true := List.any_eq_true.mpr ⟨f, hf, (clears f).mpr hp⟩
    refine ⟨s.fences.list.map s.clearFence, congrArg Host.Outcome.next (if_pos due), List.length_map _, fun k g hg => ?_⟩
    rw [List.getElem?_map, hg, Option.map_some]
    exact ⟨fun h => congrArg some (if_pos ((clears g).mpr h)), fun h => congrArg some (if_neg fun e => h ((clears g).mp e))⟩
  · have overdue : s.overdue f = true := by
      rw [State.overdue_iff]
      exact hpast
    refine ⟨fun hw => ?_, fun hw => ?_⟩
    · have due : s.expiryDue k = true := by simp [State.expiryDue, hk, hw, overdue]
      have expired : s.fences.list.modify k.val s.expireFence = s.fences.list.set k.val (s.expireFence f) := by
        rw [List.modify_eq_set_getElem?, hk]
        rfl
      exact congrArg Host.Outcome.next ((if_pos due).trans (congrArg s.setFences expired))
    · have due : s.dropDue k = true := by simp [State.dropDue, hk, hw, overdue]
      exact congrArg Host.Outcome.next (if_pos due)

/-! ## Announces, idle frames and the quiet window (R84, R94 to R96) -/

theorem State.setPort_setPort (s : State) (p : RackId) (q q' : Port) : (s.setPort p q).setPort p q' = s.setPort p q' := by
  have rack : (s.setPort p q).rack p = { s.rack p with port := q } := by rw [State.rack_setPort, if_pos rfl]
  unfold State.setPort at rack ⊢
  rw [rack]
  simp [State.setRack]

/-- A decrement of the fault budget on a port just written (R95). -/
theorem State.decrementBudget_setPort (s : State) (p : RackId) (q : Port) : (s.setPort p q).decrementBudget p =
    if q.budget ≤ 1 then { s.setPort p { q with budget := q.budgetReload, degraded := q.degraded + 1 } with
      link := { s.link with events := { s.link.events with portDegraded := s.link.events.portDegraded ||| rackBit p } } }
    else s.setPort p { q with budget := q.budget - 1 } := by
  unfold State.decrementBudget
  rw [State.port_setPort_self]
  dsimp only
  rw [State.setPort_setPort, State.setPort_setPort]
  rfl

/-- Settles O33. -/
theorem announcesAndIdleFrames : Obligations.AnnouncesAndIdleFrames := by
  intro s p q spent
  have idle (hs : q.state = .running) (ha : q.activity = .idle) : (s.port p).idleRunning = true := Port.idleRunning_iff.mpr ⟨hs, ha⟩
  have charged (q' : Port) : (s.setPort p q').decrementBudget p = spent q' := s.decrementBudget_setPort p q'
  refine ⟨fun hs ha hp => ?_, fun ha => congrArg Host.Outcome.next (if_pos ha), fun ha hx => ?_, fun hs ha => ?_, rfl, fun e ha hq he => ?_⟩
  · have due : s.announceDue p = true := by rw [State.announceDue, idle hs ha]; exact hp
    exact congrArg Host.Outcome.next (if_pos due)
  · have run : exec (.echoMismatch p) s = .next ((s.setPort p (q.rest .idle)).decrementBudget p) := by
      refine congrArg Host.Outcome.next ?_
      rw [show (s.port p).activity = .announcing from ha]
    rw [run, charged]
    unfold Port.rest
    rw [← hx]
  · rw [← charged]
    exact congrArg Host.Outcome.next (if_pos (idle hs ha))
  · have due : s.quietDue p = true := by
      rw [State.quietDue, show (s.port p).activity = .quiet from ha, show (s.port p).quietEnd = some e from hq]
      simp [he]
    exact congrArg Host.Outcome.next (if_pos due)

/-! ## The ends of a Probe (R81, R85, R99) -/

/-- Settles O35. -/
theorem probeEndsAndReplyIsStamped : Obligations.ProbeEndsAndReplyIsStamped := by
  intro s p x hx
  refine ⟨fun hp => ?_, fun hp hr => ?_⟩
  · refine congrArg Host.Outcome.next ?_
    rw [hx]
    exact if_pos hp
  · refine congrArg Host.Outcome.next ?_
    rw [hx]
    exact (if_pos ⟨hp, hr⟩).trans rfl

end Sys2Proof.Machine

/-! PROOFS. The sweep of a port and the Probe it begins (R78 to R81, R115). -/

namespace Sys2Proof.Machine

/-! ## The choice of the sweep (R78, R79) -/

theorem Follower.before_iff {f g : Follower} : f.before g = true ↔ f.nextDue < g.nextDue ∨ (f.nextDue = g.nextDue ∧ f.slot < g.slot) := by
  simp [Follower.before]

theorem Follower.before_asymm {f g : Follower} (h : f.before g = true) : g.before f = false := by
  rw [Bool.eq_false_iff, ne_eq, Follower.before_iff]
  rw [Follower.before_iff] at h
  omega

section Sweep

variable {s : State} {p : RackId} {i : FollowerId}

/-- A claimant before all others is the one that the sweep keeps. -/
theorem State.foldl_better_eq {l : List FollowerId} {b : Option FollowerId}
    (first : ∀ j, j ∈ l ∨ b = some j → j ≠ i → (s.follower i).before (s.follower j) = true) (h : b = some i ∨ i ∈ l) :
    l.foldl s.better b = some i := by
  induction l generalizing b with
  | nil => exact h.resolve_right (by simp)
  | cons a l ih =>
    have kept : s.better b a = some a ∨ s.better b a = b ∧ b ≠ none := by
      unfold State.better
      cases b with
      | none => exact .inl rfl
      | some j => by_cases e : (s.follower a).before (s.follower j) = true <;> simp [e]
    refine ih (fun j hj => first j ?_) ?_
    · rcases hj with hj | hj
      · exact .inl (List.mem_cons_of_mem _ hj)
      · rcases kept with e | ⟨e, -⟩
        · exact .inl (by simp [Option.some.inj (e.symm.trans hj)])
        · exact .inr (e ▸ hj)
    · rcases h with rfl | h
      · by_cases e : a = i
        · subst e
          exact .inl (kept.elim id fun h => h.1)
        · have later := Follower.before_asymm (first a (.inl List.mem_cons_self) e)
          exact .inl (by simp [State.better, later])
      · rcases List.mem_cons.mp h with rfl | h
        · refine .inl ?_
          cases b with
          | none => rfl
          | some j =>
            by_cases e : j = i
            · subst e; simp [State.better]
            · simp [State.better, first j (.inr rfl) e]
        · exact .inr h

/-- A due follower before all other due ones is the sweep's choice (R79). -/
theorem State.sweepChoice_eq (hi : s.isDue p i = true) (first : ∀ j, j ≠ i → s.isDue p j = true → (s.follower i).before (s.follower j) = true) :
    s.sweepChoice p = some i := by
  have every (j : FollowerId) : j ∈ allFollowers := by
    unfold allFollowers
    exact List.mem_finRange j
  refine State.foldl_better_eq (fun j hj hne => first j hne ?_) (.inr (List.mem_filter.mpr ⟨every i, hi⟩))
  exact (List.mem_filter.mp (hj.resolve_right nofun)).2

end Sweep

/-! ## The Probe (R81) -/

/-- The frame of a Probe from the fields of the record (R81, R170). -/
theorem probeFrame_eq (f : Follower) (slot sequence : Byte) (order : Option OrderKind) :
    probeFrame slot sequence f.advice order =
      busFrame 0x01 ([slot, sequence, if f.published.valid && !f.holding then 0x01 else 0x00] ++
        beInt 6 (if f.published.valid && !f.holding then f.published.theta else 0) ++
        beInt 4 (if f.published.valid && !f.holding then f.published.rate else 0) ++
        [match order with | none => 0x00 | some k => k.code]) := by
  unfold probeFrame Follower.advice
  cases f.published.valid && !f.holding <;> cases order <;> rfl

/-- Settles O34. -/
theorem sweepProbesEarliestDueFollower : Obligations.SweepProbesEarliestDueFollower := by
  intro s p i q f due hs ha hp hd first base period next hnext valid order
  have isDue (j : FollowerId) : s.isDue p j = true ↔ due (s.follower j) := by
    show (_ && _ && _) = true ↔ _
    rw [Bool.and_eq_true, Bool.and_eq_true, beq_iff_eq, decide_eq_true_eq, and_assoc]
    rfl
  have chosen : s.sweepChoice p = some i :=
    State.sweepChoice_eq ((isDue i).mpr hd) fun j hne hj => Follower.before_iff.mpr (first j hne ((isDue j).mp hj))
  have exchangeDue : s.exchangeDue p = true := by
    rw [State.exchangeDue, Port.idleRunning_iff.mpr ⟨hs, ha⟩, show (s.port p).pendingAnnounce = false from hp, chosen]
    rfl
  have run : exec (.exchangeStart p) s = .next (s.startExchange p i) := by
    refine congrArg Host.Outcome.next ((if_pos exchangeDue).trans ?_)
    rw [chosen]
  have advanced : s.nextDueAfter f (s.rack p).drift.state = next := State.heldInstant_of_le _ hnext
  rw [run]
  unfold State.startExchange
  dsimp only
  rw [show s.nextDueAfter (s.follower i) (s.rack p).drift.state = next from advanced, probeFrame_eq]
  rfl

end Sys2Proof.Machine

/-! PROOFS. The end of an exchange in a counted fault (R66, R85, R90 to R92, R95, R119). -/

namespace Sys2Proof.Machine

/-! ## The record -/

/-- The third attempt of the pending order, if there is one, is spent. -/
def Follower.losing (f : Follower) : Bool := f.pendingOrder.any fun o => decide (2 ≤ o.attempts)

/-- The record after an attempt of its pending order (R119). -/
theorem Follower.attempted_eq (f : Follower) : f.attempted = { f with
    pendingOrder := if f.losing then none else f.pendingOrder.map fun o => { o with attempts := o.attempts + 1 }
    lastOutcome := if f.losing then f.pendingOrder.map fun o => (.lost, o.kind) else f.lastOutcome
    noticed := f.noticed || (f.losing && f.notify.onOrder) } := by
  unfold Follower.attempted Follower.losing
  cases h : f.pendingOrder with
  | none =>
    simp only [Option.any_none, Option.map_none, Bool.false_and, Bool.or_false, Bool.false_eq_true, if_false]
    rw [← h]
  | some o =>
    by_cases hl : 3 ≤ o.attempts + 1
    · have hl' : 2 ≤ o.attempts := by omega
      simp [hl', Follower.ended, h]
    · have hl' : ¬ 2 ≤ o.attempts := by omega
      simp [hl']

/-- The record is Stale by its faults, this one included (R66). -/
def Follower.failing (f : Follower) (limit : Nat) : Bool :=
  (f.state = .settling ∨ f.state = .trusted) ∧ limit ≤ min 15 (f.consecutiveFaults + 1)

theorem Follower.failing_attempted (f : Follower) (limit : Nat) : f.attempted.failing limit = f.failing limit := by
  rw [Follower.attempted_eq]
  rfl

/-- The record after a counted fault (R66). -/
theorem Follower.faulted_eq (f : Follower) (limit : Nat) (k : FaultKind) : f.faulted limit k = { f with
    consecutiveFaults := min 15 (f.consecutiveFaults + 1), faultedCount := f.faultedCount + 1, lastFault := some k
    state := if f.failing limit then .stale else f.state
    noticed := f.noticed || (f.failing limit && f.notify.onStale) } := by
  unfold Follower.faulted Follower.failing
  by_cases h : (f.state = .settling ∨ f.state = .trusted) ∧ limit ≤ min 15 (f.consecutiveFaults + 1)
  · rw [decide_eq_true h]
    exact (if_pos h).trans (by simp [Follower.countFault])
  · rw [decide_eq_false h]
    exact (if_neg h).trans (by simp [Follower.countFault])

/-- A counted fault leaves nothing that the vacating of the record reads (R63, R66). -/
theorem Follower.retired_faulted (f : Follower) (limit : Nat) (k : FaultKind) (h : f.state = .retiring) : (f.faulted limit k).retired = f.retired := by
  have stays : f.failing limit = false := by simp [Follower.failing, h]
  rw [Follower.faulted_eq, Follower.retired_eq, Follower.retired_eq]
  simp [stays]

/-! ## The part -/

section Fault

variable (s : State) (p : RackId)

theorem State.rack_decrementBudget_ne {k : RackId} (h : p ≠ k) : (s.decrementBudget p).rack k = s.rack k := by
  have budget (q : Port) : (s.setPort p q).rack k = s.rack k := by rw [State.rack_setPort, if_neg h]
  unfold State.decrementBudget
  dsimp only
  split
  · exact budget _
  · exact budget _

theorem State.rack_endExchange_ne {k : RackId} (h : p ≠ k) (a : Activity) : (s.endExchange p a).rack k = s.rack k :=
  State.rack_eq_of_port (s.endExchange_rack p k a) (by rw [State.port_endExchange, if_neg (fun e => h e.1)]; rfl)

/-- A decrement to 0 is reported for the rack (R95). -/
theorem State.decrementBudget_reports (h : (s.port p).budget ≤ 1) :
    (s.decrementBudget p).link.events.portDegraded.getLsbD p.val = true := by
  have bit : ∀ q : RackId, (rackBit q).getLsbD q.val = true := by decide
  unfold State.decrementBudget
  dsimp only
  rw [if_pos h]
  simp [State.raiseRack, Events.raiseRack, bit p]

variable {s p}

theorem State.addAttempt_link (i : FollowerId) : s.LinkKept (s.addAttempt i) := by
  unfold State.addAttempt
  dsimp only
  split
  · exact .refl
  · refine .ite ?_ rfl
    unfold State.LinkKept
    rw [State.endOrder_link]

theorem State.countFault_link (i : FollowerId) (k : FaultKind) : s.LinkKept (s.countFault i k) := by
  unfold State.countFault
  exact .ite (State.LinkKept.trans rfl (State.goStale_link _ i)) rfl

theorem State.decrementBudget_link : s.LinkKept (s.decrementBudget p) := .ite rfl rfl

theorem State.endExchange_link (a : Activity) : s.LinkKept (s.endExchange p a) := by
  unfold State.endExchange
  split
  · exact .refl
  · refine .ite ?_ rfl
    unfold State.LinkKept
    rw [State.vacate_link]
    rfl

theorem State.faultExchange_link {x : Exchange} (hx : (s.port p).exchange = some x) (k : FaultKind) (attempt : Bool) :
    s.LinkKept (s.faultExchange p k attempt) := by
  rw [State.faultExchange_eq _ _ _ hx]
  unfold State.chargeFault
  exact (((State.LinkKept.ite (State.addAttempt_link _) .refl).trans (State.countFault_link _ k)).trans State.decrementBudget_link).trans
    (State.endExchange_link _)

variable {x : Exchange} (hx : (s.port p).exchange = some x) (k : FaultKind) (attempt : Bool)

theorem State.chargeFault_rack_ne {j : RackId} (i : FollowerId) (h : p ≠ j) : (s.chargeFault p i k attempt).rack j = s.rack j := by
  unfold State.chargeFault
  rw [State.rack_decrementBudget_ne _ _ h, State.rack_congr (State.countFault_racks _ _ _)]
  split
  · rw [State.rack_congr (State.addAttempt_racks _ _)]
  · rfl

include hx

theorem State.faultExchange_rack_ne {j : RackId} (h : p ≠ j) : (s.faultExchange p k attempt).rack j = s.rack j := by
  rw [State.faultExchange_eq _ _ _ hx, State.rack_endExchange_ne _ _ h, State.chargeFault_rack_ne _ _ _ h]

theorem State.faultExchange_port : (s.faultExchange p k attempt).port p = (s.port p).spent.rest .idle := by
  have busy : (s.port p).spent.exchange.isSome = true := by rw [Port.spent_exchange, hx]; rfl
  rw [State.faultExchange_eq _ _ _ hx, State.port_endExchange, State.chargeFault_port, if_pos ⟨rfl, busy⟩]

theorem State.faultExchange_reports (h : (s.port p).budget ≤ 1) :
    (s.faultExchange p k attempt).link.events.portDegraded.getLsbD p.val = true := by
  rw [State.faultExchange_eq _ _ _ hx]
  refine (State.flagsStand_endExchange _ p .idle).events.portDegraded _ ?_
  unfold State.chargeFault
  refine State.decrementBudget_reports _ p ?_
  rw [State.port_congr (State.countFault_racks _ _ _)]
  split
  · rw [State.port_congr (State.addAttempt_racks _ _)]
    exact h
  · exact h

/-- The one record whose fences go where the exchange of a port ends (R61, R144). -/
theorem State.goneBy_one (i : FollowerId) : s.goneBy [p] i = true ↔ i = x.follower ∧ (s.follower x.follower).state = .retiring := by
  simp only [State.goneBy, State.addressedOn, hx, List.any_cons, List.any_nil, Bool.or_false, Option.any_some, Bool.and_eq_true, beq_iff_eq]
  exact ⟨fun ⟨hr, hi⟩ => ⟨hi.symm, hi ▸ hr⟩, fun ⟨hi, hr⟩ => ⟨hi ▸ hr, hi.symm⟩⟩

/-- The fences that the end of an exchange leaves (R61, R144). -/
theorem State.filter_goneBy : s.fences.list.filter (fun f => !s.goneBy [p] f.follower) =
    if (s.follower x.follower).state = .retiring then s.fences.list.filter (fun f => f.follower != x.follower) else s.fences.list := by
  split
  · rename_i hr
    refine List.filter_congr fun f _ => ?_
    have gone : s.goneBy [p] f.follower = (f.follower == x.follower) := by
      rw [Bool.eq_iff_iff, State.goneBy_one hx, beq_iff_eq]
      exact and_iff_left hr
    rw [gone]
    rfl
  · rename_i hr
    refine List.filter_eq_self.mpr fun f _ => ?_
    rw [Bool.not_eq_true', Bool.eq_false_iff]
    exact fun e => hr ((State.goneBy_one hx _).mp e).2

end Fault

/-! ## Which commands end an exchange in a counted fault -/

/-- The last two checks of R87. -/
theorem Timestamps.fault_of_causality {x : Timestamps} (ceiling : Nat) (h : x.turnaround < 0 ∨ x.roundTrip < x.turnaround) :
    x.fault ceiling = some .causality := if_pos h

theorem Timestamps.fault_of_delay {x : Timestamps} {ceiling : Nat} (h0 : 0 ≤ x.turnaround) (h : x.turnaround ≤ x.roundTrip)
    (hd : (ceiling : Int) < x.delay) : x.fault ceiling = some .delay := by
  unfold Timestamps.fault
  rw [if_neg (by omega), if_pos hd]

theorem exec_replyReceptionEnd_of_reply {s : State} {p : RackId} {x : Exchange} {capture : Capture} (received : List Byte)
    (hx : (s.port p).exchange = some x) (hp : x.phase = .awaiting) (hr : x.reply = some capture) :
    exec (.replyReceptionEnd p received) s = .next (s.receiveReply p x capture received) := by
  refine congrArg Host.Outcome.next ?_
  rw [hx]
  dsimp only
  rw [hp, hr]

/-- Settles O36: each of the commands runs `faultExchange`, and its blocks are read off. -/
theorem countedFaultsEndTheExchange : Obligations.CountedFaultsEndTheExchange := by
  intro c s p x kind attempt hx hc i f vacant
  have run : exec c s = .next (s.faultExchange p kind attempt) := by
    rcases hc with ⟨rfl, hp, hr, ⟨e, he, hle⟩, rfl, rfl⟩ | ⟨rfl, ha, rfl, hp⟩ | ⟨received, capture, rfl, hp, hr, rfl, hreply⟩
    · have due : s.replyWindowDue p = true := by simp [State.replyWindowDue, hx, hp, hr, he, hle]
      exact congrArg Host.Outcome.next (if_pos due)
    · refine congrArg Host.Outcome.next ?_
      rw [ha, hx]
      rcases hp with ⟨hp, rfl⟩ | ⟨hp, rfl⟩ <;> dsimp only <;> rw [hp]
    · rw [exec_replyReceptionEnd_of_reply received hx hp hr]
      refine congrArg Host.Outcome.next ?_
      unfold State.receiveReply
      dsimp only
      rcases hreply with herr | ⟨r, hok, ⟨hfault, rfl⟩ | ⟨h0, h1, hd, rfl⟩⟩
      · rw [herr]
      · rw [hok]
        dsimp only
        rw [Timestamps.fault_of_causality (x := ⟨x.t1, r.t2, r.t3, capture.t4⟩) _ hfault]
      · rw [hok]
        dsimp only
        rw [Timestamps.fault_of_delay (x := ⟨x.t1, r.t2, r.t3, capture.t4⟩) h0 h1 hd]
  have record := s.follower_faultExchange kind attempt hx
  have fences := s.faultExchange_fences hx kind attempt
  rw [State.filter_goneBy hx] at fences
  refine ⟨_, run, fun hr => ⟨?_, ?_⟩, fun hr => ⟨?_, ?_⟩, fun j hj => ?_, ?_, State.faultExchange_reports hx kind attempt,
    fun q hq => State.faultExchange_rack_ne hx kind attempt hq.symm, ?_, State.faultExchange_link hx kind attempt⟩
  · rw [record, if_pos rfl]
    dsimp only
    rw [if_pos hr, Follower.retired_faulted _ _ _ hr]
    exact Follower.retired_eq _
  · rw [fences, if_pos hr]
  · rw [fences, if_neg hr]
  · intro g faults stale lost
    have lost_eq : lost = (attempt && x.order.isSome && f.losing) := rfl
    have stale_eq : stale = f.failing (s.rack f.port).faultLimit := rfl
    have kept : g = (if attempt && x.order.isSome then f.attempted else f).faulted (s.rack f.port).faultLimit kind := by
      show State.follower _ _ = _
      rw [record, if_pos rfl]
      exact if_neg hr
    clear_value g stale lost
    subst kept lost_eq stale_eq
    rw [Follower.faulted_eq]
    have carried : (attempt = true ∧ x.order.isSome = true) ↔ (attempt && x.order.isSome) = true := Bool.and_eq_true_iff.symm
    simp only [carried]
    cases attempt && x.order.isSome with
    | false =>
      simp only [Bool.false_and, Bool.or_false, Bool.false_eq_true, if_false]
      rfl
    | true =>
      rw [if_pos rfl, f.failing_attempted, Follower.attempted_eq]
      simp only [Bool.true_and, if_true, Bool.or_right_comm]
      rfl
  · rw [record, if_neg hj]
  · rw [State.faultExchange_port hx]
    unfold Port.spent
    split <;> rfl
  · simp only [State.faultExchange_elapsed, State.faultExchange_row, State.faultExchange_selector, State.faultExchange_lines,
      State.faultExchange_pulseWindow, State.faultExchange_boundaries, State.faultExchange_choices, State.faultExchange_pending,
      State.faultExchange_wires]

end Sys2Proof.Machine

/-! PROOFS. What a good Reply publishes, and how it settles the record (R64, R65, R98 to R109). -/

namespace Sys2Proof.Machine

/-! ## A good Reply -/

/-- A Reply that passes every check is processed (R87, R88). -/
theorem exec_goodReply {s : State} {p : RackId} {x : Exchange} {capture : Capture} {received : List Byte} {r : Reply}
    (hx : (s.port p).exchange = some x) (hp : x.phase = .awaiting) (hr : x.reply = some capture)
    (hok : parseReply (BitVec.ofNat 8 (s.follower x.follower).slot.val) x.sequence received = .ok r)
    (h0 : 0 ≤ (x.stamps capture r).turnaround) (h1 : (x.stamps capture r).turnaround ≤ (x.stamps capture r).roundTrip)
    (hd : (x.stamps capture r).delay ≤ (s.port p).delayCeiling) :
    exec (.replyReceptionEnd p received) s = .next (s.processReply p x capture r) := by
  have faultless : (x.stamps capture r).fault (s.port p).delayCeiling = none := by
    unfold Timestamps.fault
    rw [if_neg (not_or.mpr ⟨Int.not_lt.mpr h0, Int.not_lt.mpr h1⟩), if_neg (Int.not_lt.mpr hd)]
  rw [exec_replyReceptionEnd_of_reply received hx hp hr]
  refine congrArg Host.Outcome.next ?_
  unfold State.receiveReply
  dsimp only
  rw [hok]
  dsimp only
  rw [show (⟨x.t1, r.t2, r.t3, capture.t4⟩ : Timestamps) = x.stamps capture r from rfl, faultless]

/-! ## Stage 3, its order fields apart (R116 to R119) -/

/-- `g` is `f` but for the order fields, agent holding and the noticed flag. -/
def Follower.AsideOrder (f g : Follower) : Prop :=
  { g with holding := f.holding, pendingOrder := f.pendingOrder, lastOutcome := f.lastOutcome, noticed := f.noticed } = f

/-- The Reply acknowledges Done a STEP or a RESET-AGENT that the Probe carried (R117). -/
def Reply.Restarts (r : Reply) (carried : Option OrderKind) : Prop :=
  ∃ k, r.ack = some (k, .done) ∧ carried = some k ∧ (k = .step ∨ k = .resetAgent)

/-- The record after the epoch of a Done of STEP or RESET-AGENT (R117). -/
def Follower.rearmed (f : Follower) (now : Nat) : Follower := if f.state.active then (f.epoch now).resettle else f.epoch now

section Aside

variable {f g k : Follower}

theorem Follower.AsideOrder.refl (f : Follower) : f.AsideOrder f := rfl

theorem Follower.AsideOrder.trans (a : f.AsideOrder g) (b : g.AsideOrder k) : f.AsideOrder k := by
  unfold Follower.AsideOrder at *
  rw [← a, ← b]

theorem Follower.AsideOrder.state (h : f.AsideOrder g) : g.state = f.state := by rw [← h]

theorem Follower.AsideOrder.settleCount (h : f.AsideOrder g) : g.settleCount = f.settleCount := by rw [← h]

theorem Follower.AsideOrder.rateBase (h : f.AsideOrder g) : g.rateBase = f.rateBase := by rw [← h]

theorem Follower.AsideOrder.freshSince (h : f.AsideOrder g) : g.freshSince = f.freshSince := by rw [← h]

theorem Follower.AsideOrder.goodCount (h : f.AsideOrder g) : g.goodCount = f.goodCount := by rw [← h]

theorem Follower.AsideOrder.consecutiveFaults (h : f.AsideOrder g) : g.consecutiveFaults = f.consecutiveFaults := by rw [← h]

theorem Follower.AsideOrder.lastFault (h : f.AsideOrder g) : g.lastFault = f.lastFault := by rw [← h]

theorem Follower.AsideOrder.faultedCount (h : f.AsideOrder g) : g.faultedCount = f.faultedCount := by rw [← h]

theorem Follower.AsideOrder.slotA (h : f.AsideOrder g) : g.slotA = f.slotA := by rw [← h]

theorem Follower.AsideOrder.slotB (h : f.AsideOrder g) : g.slotB = f.slotB := by rw [← h]

theorem Follower.AsideOrder.selector (h : f.AsideOrder g) : g.selector = f.selector := by rw [← h]

theorem Follower.AsideOrder.ite {d : Prop} [Decidable d] (a : f.AsideOrder g) (b : f.AsideOrder k) : f.AsideOrder (if d then g else k) := by
  split
  · exact a
  · exact b

theorem Follower.ended_aside (how : OrderEnd) : f.AsideOrder (f.ended how) := by
  unfold Follower.ended
  split <;> rfl

theorem Follower.attempted_aside : f.AsideOrder f.attempted := by rw [Follower.attempted_eq]; rfl

theorem Follower.reported_aside (flag : Bool) : f.AsideOrder (f.reported flag) :=
  .ite rfl (.ite (.trans (g := { f with holding := flag }) rfl (Follower.ended_aside _)) rfl)

/-- Stage 3 where no Done of STEP or RESET-AGENT is taken. -/
theorem Follower.ordered_aside {carried : Option OrderKind} {r : Reply} (now : Nat) (h : ¬ r.Restarts carried) :
    f.AsideOrder (f.ordered carried r now) := by
  have attempted : f.AsideOrder ((if carried.isSome then f.attempted else f).reported r.holding) :=
    (Follower.AsideOrder.ite Follower.attempted_aside (.refl f)).trans (Follower.reported_aside _)
  unfold Follower.ordered
  split
  · rename_i k result hack
    split
    · rename_i hcar
      cases result with
      | refused => exact Follower.ended_aside _
      | done =>
        refine Follower.AsideOrder.trans (g := f.acknowledgeDone k now) ?_ (Follower.ended_aside _)
        cases k with
        | step => exact absurd ⟨_, hack, hcar, .inl rfl⟩ h
        | resetAgent => exact absurd ⟨_, hack, hcar, .inr rfl⟩ h
        | hold | resume => rfl
    · exact attempted
  · exact attempted

/-- Stage 3 where a Done of STEP or RESET-AGENT is taken. -/
theorem Follower.ordered_restarted {carried : Option OrderKind} {r : Reply} (now : Nat) (h : r.Restarts carried) :
    (f.rearmed now).AsideOrder (f.ordered carried r now) := by
  obtain ⟨k, hack, hcar, hk⟩ := h
  unfold Follower.ordered
  rw [hack]
  dsimp only
  rw [if_pos hcar]
  refine Follower.AsideOrder.trans (g := f.acknowledgeDone k now) ?_ (Follower.ended_aside _)
  rcases hk with rfl | rfl <;> rfl

end Aside

/-! ## Stage 2 (R64, R65) -/

/-- Stage 2 writes the state, the settle count, the fields of R64 and the noticed flag alone. -/
theorem Follower.settled_frame (f : Follower) (beyond following : Bool) (t4 : Nat) : { f.settled beyond following t4 with
    state := f.state, settleCount := f.settleCount, goodCount := f.goodCount, consecutiveFaults := f.consecutiveFaults
    freshSince := f.freshSince, noticed := f.noticed } = f := by
  unfold Follower.settled
  dsimp only
  split
  · rfl
  · split
    · rfl
    · split
      · split <;> rfl
      · rfl
  · split <;> rfl
  all_goals rfl

/-- What stage 2 writes in an active record. -/
theorem Follower.settled_cases (f : Follower) (beyond following : Bool) (t4 : Nat) :
    let g := f.settled beyond following t4
    (f.state.active = true → g.goodCount = f.goodCount + 1 ∧ g.consecutiveFaults = 0 ∧ g.freshSince = t4) ∧
    (f.state = .stale ∨ (f.state = .settling ∨ f.state = .trusted) ∧ beyond = true → g.state = .settling ∧ g.settleCount = f.settleReload) ∧
    (f.state = .trusted → beyond = false → g.state = .trusted ∧ g.settleCount = f.settleCount) ∧
    (f.state = .settling → beyond = false → following = true →
      (f.settleCount ≤ 1 → g.state = .trusted ∧ g.settleCount = 0 ∧ g.noticed = (f.noticed || f.notify.onTrusted)) ∧
      (2 ≤ f.settleCount → g.state = .settling ∧ g.settleCount = f.settleCount - 1)) ∧
    (f.state = .settling → beyond = false → following = false → g.state = .settling ∧ g.settleCount = f.settleCount) := by
  have state : (f.goodExchange t4).state = f.state := rfl
  have count : (f.goodExchange t4).settleCount = f.settleCount := rfl
  unfold Follower.settled
  dsimp only
  rw [state, count]
  cases h : f.state with
  | settling =>
    cases beyond with
    | true => simp [Follower.goodExchange, Follower.resettle]
    | false =>
      cases following with
      | false => simp [Follower.goodExchange, h]
      | true =>
        by_cases hc : f.settleCount ≤ 1
        · simp [Follower.goodExchange, hc, Nat.not_le.mpr (Nat.lt_succ_of_le hc)]
        · simp [Follower.goodExchange, hc, h]
  | trusted => cases beyond <;> simp [Follower.goodExchange, Follower.resettle, h]
  | stale => simp [Follower.goodExchange, Follower.resettle]
  | vacant | muted | retiring => simp [FollowerState.active]

/-! ## The record after a good Reply -/

section Replied

variable (s : State) (p : RackId) (x : Exchange) (c : Capture) (r : Reply)

/-- The record after stages 1 and 2. -/
def State.settledRecord : Follower :=
  ((s.follower x.follower).publish (s.newEstimate p x c r)).settled (s.beyondTrust p x c r) s.row.state.following c.t4

theorem State.repliedRecord_eq : s.repliedRecord p x c r = (s.settledRecord p x c r).ordered x.order r s.now := rfl

theorem State.settledRecord_rateBase : (s.settledRecord p x c r).rateBase = true := by
  have published : ((s.follower x.follower).publish (s.newEstimate p x c r)).rateBase = true := by
    unfold Follower.publish
    split <;> rfl
  unfold State.settledRecord
  generalize (s.follower x.follower).publish (s.newEstimate p x c r) = g at published ⊢
  rw [← g.settled_frame (s.beyondTrust p x c r) s.row.state.following c.t4] at published
  exact published

/-- The rate base is valid unless a Done of STEP or RESET-AGENT is taken (R107, R109, R117). -/
theorem State.repliedRecord_rateBase : (s.repliedRecord p x c r).rateBase = true ↔ ¬ r.Restarts x.order := by
  rw [State.repliedRecord_eq]
  by_cases h : r.Restarts x.order
  · have base : ((s.settledRecord p x c r).ordered x.order r s.now).rateBase = ((s.settledRecord p x c r).rearmed s.now).rateBase :=
      (Follower.ordered_restarted s.now h).rateBase
    have none : ((s.settledRecord p x c r).rearmed s.now).rateBase = false := by
      unfold Follower.rearmed
      split <;> rfl
    rw [base, none]
    simp [h]
  · have base : ((s.settledRecord p x c r).ordered x.order r s.now).rateBase = (s.settledRecord p x c r).rateBase :=
      (Follower.ordered_aside s.now h).rateBase
    rw [base, State.settledRecord_rateBase]
    simp [h]

/-- The estimate of stage 1, in the terms of R100 to R106. -/
theorem State.newEstimate_eq :
    let f := s.follower x.follower
    let trip : Int := (c.t4 : Int) - x.t1
    let turn : Int := (r.t3 : Int) - r.t2
    let delay := (trip - turn) / 2
    let raw : Int := (((r.t2 : Int) - x.t1) + ((r.t3 : Int) - c.t4)) / 2
    let theta := max (-1099511627775) (min (raw - (s.port p).asymmetry) 1099511627775)
    let old := if f.published.valid then f.published.rate else 0
    let rawRate := max (-1600000) (min (16000000000 * (theta - f.published.theta) / ((c.t4 - f.published.t4 : Nat) : Int)) 1600000)
    s.newEstimate p x c r =
      { valid := true, theta := theta, delay := delay.toNat, t4 := c.t4
        rate := if f.rateBase = true ∧ r.restarted = false ∧ 100000000 + f.published.t4 ≤ c.t4
          then old + (rawRate - old) / 2 ^ f.shift else old
        uPub := publishedU c delay.toNat (s.port p).baseError } := by
  intro f trip turn delay raw theta old rawRate
  have permitted : f.ratePermitted r.restarted c.t4 = true ↔ f.rateBase = true ∧ r.restarted = false ∧ 100000000 + f.published.t4 ≤ c.t4 := by
    simp only [Follower.ratePermitted, Bool.and_eq_true, Bool.not_eq_true', decide_eq_true_eq, and_assoc]
    rfl
  have offset : (x.stamps c r).correctedOffset (s.port p).asymmetry = theta := rfl
  have shift : ((2 ^ f.shift : Nat) : Int) = 2 ^ f.shift := by rw [Nat.cast_pow, Nat.cast_ofNat]
  have rate : f.newRate theta r.restarted c.t4 =
      if f.rateBase = true ∧ r.restarted = false ∧ 100000000 + f.published.t4 ≤ c.t4 then old + (rawRate - old) / 2 ^ f.shift else old := by
    unfold Follower.newRate smoothedRate floorDiv
    rw [shift]
    exact if_congr permitted rfl rfl
  rw [← rate]
  rfl

end Replied

/-- Settles O37. -/
theorem goodReplyPublishesEstimate : Obligations.GoodReplyPublishesEstimate := by
  intro s p x capture received r hx hp hr f trip turn delay hok ha h0 h1 hd raw theta old rawRate estimate
  have run := exec_goodReply hx hp hr hok h0 h1 hd
  have record := State.follower_processReply_active (p := p) (c := capture) (r := r) ha
  have new : s.newEstimate p x capture r = estimate := (s.newEstimate_eq p x capture r).trans rfl
  obtain ⟨slotA, slotB, selector⟩ := s.repliedRecord_estimates p x capture r
  rw [new] at slotA slotB selector
  refine ⟨_, run, ?_, fun j hj => by rw [record, if_neg (Ne.symm hj)]⟩
  rw [record, if_pos rfl]
  refine ⟨fun hs => ?_, fun hs => ?_, ?_⟩
  · rw [selector, slotA, slotB]
    unfold Follower.publish
    rw [show (s.follower x.follower).selector = .a from hs]
    exact ⟨rfl, rfl, rfl⟩
  · rw [selector, slotA, slotB]
    unfold Follower.publish
    rw [show (s.follower x.follower).selector = .b from hs]
    exact ⟨rfl, rfl, rfl⟩
  · exact s.repliedRecord_rateBase p x capture r

end Sys2Proof.Machine

/-! PROOFS. A good Reply, continued: the settling of the record and the acknowledgement (R64, R65, R116 to R119, R121). -/

namespace Sys2Proof.Machine

/-- Publication writes the estimate fields alone. -/
theorem Follower.publish_frame (f : Follower) (e : Estimate) :
    { f.publish e with slotA := f.slotA, slotB := f.slotB, selector := f.selector, rateBase := f.rateBase } = f := by
  unfold Follower.publish
  split <;> rfl

/-! ## Notices -/

theorem Follower.ended_noticed (f : Follower) (how : OrderEnd) :
    (f.ended how).noticed = (f.noticed || (f.pendingOrder.isSome && f.notify.onOrder)) := by
  unfold Follower.ended
  cases f.pendingOrder <;> simp

/-- Stage 3 clears no noticed flag. -/
theorem Follower.ordered_noticed {f : Follower} {carried : Option OrderKind} {r : Reply} {now : Nat} (h : f.noticed = true) :
    (f.ordered carried r now).noticed = true := by
  have ended {g : Follower} (how : OrderEnd) (hg : g.noticed = true) : (g.ended how).noticed = true := by
    rw [Follower.ended_noticed, hg, Bool.true_or]
  have attempted : f.attempted.noticed = true := by rw [Follower.attempted_eq]; simp [h]
  have reported {g : Follower} (flag : Bool) (hg : g.noticed = true) : (g.reported flag).noticed = true := by
    unfold Follower.reported
    split
    · exact hg
    · split
      · exact ended .cancelled hg
      · exact hg
  have done (k : OrderKind) : (f.acknowledgeDone k now).noticed = true := by
    cases k <;> simp only [Follower.acknowledgeDone] <;> first | exact h | (split <;> exact h)
  have refuted : ((if carried.isSome then f.attempted else f).reported r.holding).noticed = true := by
    refine reported _ ?_
    split
    · exact attempted
    · exact h
  unfold Follower.ordered
  split
  · split
    · rename_i result _ _
      cases result with
      | done => exact ended .done (done _)
      | refused => exact ended .refused h
    · exact refuted
  · exact refuted

section Link

variable {s : State} {p : RackId} {x : Exchange} {c : Capture} {r : Reply}

/-- The link after a good Reply is as stages 1 to 3 leave it. -/
theorem State.processReply_link_of_active (h : (s.follower x.follower).state.active = true) :
    (s.processReply p x c r).link = (s.afterStages p x c r).link := by
  rw [State.processReply_of_active h, State.sendVerdict_link, State.clearBeforeVerdict_link, State.answerAsks_link]

theorem State.processReply_link_of_muted (h : (s.follower x.follower).state = .muted) :
    (s.processReply p x c r).link = ((s.restartedAnnounce p r.restarted).orderStage x.follower x.order r).link := by
  rw [State.processReply_of_muted h, State.sendVerdict_link, State.clearBeforeVerdict_link]

variable (s p)

/-- The part after stages 1 and 2 of a good Reply of a Settling, Trusted or Stale record. -/
def State.afterSettling (x : Exchange) (c : Capture) (r : Reply) : State :=
  ((s.restartedAnnounce p r.restarted).estimateStage p x.follower (x.stamps c r) c r.restarted).settleStage p x.follower
    ((x.stamps c r).correctedOffset ((s.restartedAnnounce p r.restarted).port p).asymmetry) c.t4

theorem State.afterStages_eq : s.afterStages p x c r = (s.afterSettling p x c r).orderStage x.follower x.order r := rfl

/-- Stage 2 raises the follower notice where the record asks for it at Trusted, and nothing else. -/
theorem State.settleStage_link (i : FollowerId) (theta : Int) (t4 : Nat) :
    (s.settleStage p i theta t4).link = { s.link with events := { s.link.events with
      followerNotice := s.link.events.followerNotice || (decide ((s.follower i).state = .settling) &&
        !decide ((s.rack p).trustOffset < theta.natAbs) && s.row.state.following && decide ((s.follower i).settleCount ≤ 1) &&
        (s.follower i).notify.onTrusted) } } := by
  have state : ((s.follower i).goodExchange t4).state = (s.follower i).state := rfl
  have count : ((s.follower i).goodExchange t4).settleCount = (s.follower i).settleCount := rfl
  unfold State.settleStage
  dsimp only
  rw [state, count]
  cases h : (s.follower i).state with
  | settling =>
    by_cases hb : (s.rack p).trustOffset < theta.natAbs
    · simp [hb]
    · by_cases hf : s.row.state.following = true
      · by_cases hc : (s.follower i).settleCount ≤ 1
        · simp [hb, hf, hc, State.noticeIf_link, Follower.goodExchange]
        · simp [hb, hf, hc]
      · simp [hb, hf]
  | trusted => by_cases hb : (s.rack p).trustOffset < theta.natAbs <;> simp [hb]
  | stale | vacant | muted | retiring => simp

variable (x : Exchange) (c : Capture) (r : Reply)

/-- The record is the one good exchange of R65 away from Trusted, and asks for the notice. -/
def State.trustNotice : Bool :=
  decide ((s.follower x.follower).state = .settling) && !s.beyondTrust p x c r && s.row.state.following &&
    decide ((s.follower x.follower).settleCount ≤ 1) && (s.follower x.follower).notify.onTrusted

theorem State.afterSettling_link : (s.afterSettling p x c r).link = { s.link with events := { s.link.events with
    followerNotice := s.link.events.followerNotice || s.trustNotice p x c r } } := by
  have rack : ((s.restartedAnnounce p r.restarted).rack p).trustOffset = (s.rack p).trustOffset := by
    rw [State.rack_restartedAnnounce, Rack.setAnnounce_eq]
    split <;> rfl
  have asymmetry : ((s.restartedAnnounce p r.restarted).port p).asymmetry = (s.port p).asymmetry := by
    rw [State.port_restartedAnnounce]
  have frame := (s.follower x.follower).publish_frame
    ((s.follower x.follower).estimate ((s.restartedAnnounce p r.restarted).port p) (x.stamps c r) c r.restarted)
  unfold State.afterSettling State.estimateStage State.trustNotice State.beyondTrust
  dsimp only
  rw [State.settleStage_link, State.follower_setFollower_self, State.setFollower_link, State.setFollower_rack, State.setFollower_row,
    State.restartedAnnounce_follower, State.restartedAnnounce_link, State.restartedAnnounce_row, rack, asymmetry]
  generalize (s.follower x.follower).publish _ = g at frame ⊢
  rw [← frame]

end Link

/-- What stages 1 and 2 leave of an active record (R64, R65). -/
theorem State.settledRecord_cases (s : State) (p : RackId) (x : Exchange) (c : Capture) (r : Reply) :
    let f := s.follower x.follower
    let g := s.settledRecord p x c r
    (g.lastFault = f.lastFault ∧ g.faultedCount = f.faultedCount ∧ g.pendingOrder = f.pendingOrder ∧ g.holding = f.holding ∧
      g.lastOutcome = f.lastOutcome ∧ g.notify = f.notify ∧ g.settleReload = f.settleReload) ∧
    (f.state.active = true → g.goodCount = f.goodCount + 1 ∧ g.consecutiveFaults = 0 ∧ g.freshSince = c.t4) ∧
    (f.state = .stale ∨ (f.state = .settling ∨ f.state = .trusted) ∧ s.beyondTrust p x c r = true →
      g.state = .settling ∧ g.settleCount = f.settleReload) ∧
    (f.state = .trusted → s.beyondTrust p x c r = false → g.state = .trusted ∧ g.settleCount = f.settleCount) ∧
    (f.state = .settling → s.beyondTrust p x c r = false → s.row.state.following = true →
      (f.settleCount ≤ 1 → g.state = .trusted ∧ g.settleCount = 0 ∧ g.noticed = (f.noticed || f.notify.onTrusted)) ∧
      (2 ≤ f.settleCount → g.state = .settling ∧ g.settleCount = f.settleCount - 1)) ∧
    (f.state = .settling → s.beyondTrust p x c r = false → s.row.state.following = false →
      g.state = .settling ∧ g.settleCount = f.settleCount) := by
  intro f g
  have published := f.publish_frame (s.newEstimate p x c r)
  have settled := (f.publish (s.newEstimate p x c r)).settled_frame (s.beyondTrust p x c r) s.row.state.following c.t4
  have cases := (f.publish (s.newEstimate p x c r)).settled_cases (s.beyondTrust p x c r) s.row.state.following c.t4
  have hg : (f.publish (s.newEstimate p x c r)).settled (s.beyondTrust p x c r) s.row.state.following c.t4 = g := rfl
  rw [hg] at cases settled
  clear_value f g
  generalize f.publish (s.newEstimate p x c r) = h at *
  rw [← published]
  refine ⟨?_, cases⟩
  rw [← settled]
  exact ⟨rfl, rfl, rfl, rfl, rfl, rfl, rfl⟩

/-- Settles O38: stage 3 leaves what stage 2 wrote. -/
theorem goodReplySettlesRecord : Obligations.GoodReplySettlesRecord := by
  intro s p x capture received r hx hp hr f trip turn hok h0 h1 hd hack
  have run := exec_goodReply hx hp hr hok h0 h1 hd
  have calm : ¬ r.Restarts x.order := by
    rintro ⟨k, hk, hc, hkind⟩
    rcases hack k hk hc with rfl | rfl <;> simp at hkind
  refine ⟨_, run, ?_⟩
  intro g beyond
  by_cases ha : f.state.active = true
  · have record : g = s.repliedRecord p x capture r := by
      show State.follower _ _ = _
      rw [State.follower_processReply_active ha, if_pos rfl]
    have link := State.processReply_link_of_active (p := p) (c := capture) (r := r) ha
    have beyond_iff : beyond ↔ s.beyondTrust p x capture r = true := by
      show _ < _ ↔ _
      rw [record, State.repliedRecord_published, State.beyondTrust, decide_eq_true_eq]
      rfl
    have within (h : ¬ beyond) : s.beyondTrust p x capture r = false := Bool.eq_false_iff.mpr fun e => h (beyond_iff.mpr e)
    have aside : (s.settledRecord p x capture r).AsideOrder g := by rw [record]; exact Follower.ordered_aside _ calm
    have noticed (h : (s.settledRecord p x capture r).noticed = true) : g.noticed = true := record ▸ Follower.ordered_noticed h
    obtain ⟨⟨lastFault, faultedCount, -⟩, good, resettled, trusted, nearing, held⟩ := s.settledRecord_cases p x capture r
    rw [aside.goodCount, aside.consecutiveFaults, aside.freshSince, aside.lastFault, aside.faultedCount, aside.state, aside.settleCount,
      lastFault, faultedCount]
    refine ⟨fun ha => ?_, fun h => ?_, fun ht h => ?_, fun hs h hrow => ⟨fun hc => ?_, fun hc => ?_⟩, fun hs h hl hh => ?_, fun hm => ?_⟩
    · obtain ⟨count, faults, fresh⟩ := good ha
      exact ⟨count, faults, fresh, rfl, rfl⟩
    · exact resettled (h.imp_right fun h => ⟨h.1, beyond_iff.mp h.2⟩)
    · exact trusted ht (within h)
    · have following := RowState.following_iff.mpr hrow
      obtain ⟨state, zero, notice⟩ := (nearing hs (within h) following).1 hc
      refine ⟨state, zero, fun hn => ⟨noticed (by rw [notice, show (s.follower x.follower).notify.onTrusted = true from hn, Bool.or_true]), ?_⟩⟩
      rw [link, State.afterStages_eq]
      refine (State.flagsStand_orderStage _ _ _ _).events.followerNotice ?_
      have notice : s.trustNotice p x capture r = true := by
        simp only [State.trustNotice, Bool.and_eq_true, decide_eq_true_eq, within h, Bool.not_false, following, and_true]
        exact ⟨⟨hs, hc⟩, hn⟩
      rw [State.afterSettling_link, notice]
      exact Bool.or_true _
    · exact (nearing hs (within h) (RowState.following_iff.mpr hrow)).2 hc
    · exact held hs (within h) (Bool.eq_false_iff.mpr fun e => (RowState.following_iff.mp e).elim hl hh)
    · rw [show f.state = .muted from hm] at ha
      cases ha
  · have inactive (h : f.state = .stale ∨ f.state = .settling ∨ f.state = .trusted) : False := by
      rcases h with h | h | h <;> exact ha (by rw [h]; rfl)
    refine ⟨fun h => absurd h ha, fun h => (inactive ?_).elim, fun h => (inactive (.inr (.inr h))).elim,
      fun h => (inactive (.inr (.inl h))).elim, fun h => (inactive (.inr (.inl h))).elim, fun hm => ?_⟩
    · exact h.imp_right fun h => h.1
    · have record : g = f.ordered x.order r s.now := by
        show State.follower _ _ = _
        rw [State.follower_processReply_muted hm, if_pos rfl]
      have aside : f.AsideOrder g := by rw [record]; exact Follower.ordered_aside _ calm
      exact ⟨aside.state.trans hm, aside.slotA, aside.slotB, aside.selector, aside.goodCount, aside.consecutiveFaults, aside.freshSince,
        aside.settleCount⟩

end Sys2Proof.Machine

/-! PROOFS. A good Reply, continued: the acknowledgement, the attempt and the holding report (R116 to R119, R121). -/

namespace Sys2Proof.Machine

/-- The Reply acknowledges no order of the kind that the Probe carried (R116). -/
def Reply.Silent (r : Reply) (carried : Option OrderKind) : Prop := ∀ k result, r.ack = some (k, result) → carried ≠ some k

/-! ## The record after stage 3 -/

section Record

variable {f : Follower} {carried : Option OrderKind} {r : Reply} {now : Nat}

theorem Follower.ordered_of_taken {k : OrderKind} {result : AckResult} (ha : r.ack = some (k, result)) (hc : carried = some k) :
    f.ordered carried r now = f.acked k result now := by
  unfold Follower.ordered
  rw [ha]
  exact if_pos hc

theorem Follower.ordered_of_silent (h : r.Silent carried) :
    f.ordered carried r now = (if carried.isSome then f.attempted else f).reported r.holding := by
  unfold Follower.ordered
  split
  · rename_i k result ha
    exact if_neg (h k result ha)
  · rfl

/-- The end of a pending order, field by field (R121). -/
theorem Follower.ended_of_some {o : PendingOrder} (h : f.pendingOrder = some o) (how : OrderEnd) : f.ended how = { f with
    pendingOrder := none, lastOutcome := some (how, o.kind), noticed := f.noticed || f.notify.onOrder } := by
  unfold Follower.ended
  rw [h]

/-- A taken acknowledgement (R116 to R118, R121). -/
theorem Follower.acked_of_some {o : PendingOrder} (h : f.pendingOrder = some o) (k : OrderKind) (result : AckResult) :
    let g := f.acked k result now
    (g.pendingOrder = none ∧ (f.notify.onOrder = true → g.noticed = true)) ∧
    (result = .refused → g.lastOutcome = some (.refused, o.kind) ∧ g.holding = f.holding) ∧
    (result = .done → g.lastOutcome = some (.done, o.kind) ∧
      g.holding = (match k with | .step => f.holding | .hold => true | .resume => false | .resetAgent => false) ∧
      (k = .step ∨ k = .resetAgent → g.rateBase = false ∧ g.freshSince = now ∧
        (f.state.active = true → g.state = .settling ∧ g.settleCount = f.settleReload))) := by
  have rearmed : (f.rearmed now).pendingOrder = some o ∧ (f.rearmed now).notify = f.notify ∧ (f.rearmed now).holding = f.holding ∧
      (f.rearmed now).rateBase = false ∧ (f.rearmed now).freshSince = now ∧
      (f.state.active = true → (f.rearmed now).state = .settling ∧ (f.rearmed now).settleCount = f.settleReload) := by
    unfold Follower.rearmed
    split
    · exact ⟨h, rfl, rfl, rfl, rfl, fun _ => ⟨rfl, rfl⟩⟩
    · rename_i ha
      exact ⟨h, rfl, rfl, rfl, rfl, fun e => absurd e ha⟩
  obtain ⟨pending, notify, holding, base, fresh, state⟩ := rearmed
  cases result with
  | refused =>
    dsimp only [Follower.acked]
    rw [Follower.ended_of_some h]
    exact ⟨⟨rfl, fun hn => by simp [hn]⟩, fun _ => ⟨rfl, rfl⟩, nofun⟩
  | done =>
    have ended (g : Follower) (hg : g.pendingOrder = some o) (hn : g.notify = f.notify) :
        (g.ended .done).pendingOrder = none ∧ (f.notify.onOrder = true → (g.ended .done).noticed = true) := by
      rw [Follower.ended_of_some hg, hn]
      exact ⟨rfl, fun h => by simp [h]⟩
    cases k with
    | hold | resume =>
      dsimp only [Follower.acked, Follower.acknowledgeDone]
      refine ⟨ended _ h rfl, nofun, fun _ => ?_⟩
      rw [Follower.ended_of_some (by exact h)]
      exact ⟨rfl, rfl, fun e => by simp at e⟩
    | step =>
      have run : f.acked .step .done now = (f.rearmed now).ended .done := rfl
      rw [run]
      refine ⟨ended _ pending notify, nofun, fun _ => ?_⟩
      rw [Follower.ended_of_some pending]
      exact ⟨rfl, holding, fun _ => ⟨base, fresh, state⟩⟩
    | resetAgent =>
      have run : f.acked .resetAgent .done now = ({ f.rearmed now with holding := false } : Follower).ended .done := rfl
      rw [run]
      refine ⟨ended _ pending notify, nofun, fun _ => ?_⟩
      rw [Follower.ended_of_some (by exact pending)]
      exact ⟨rfl, rfl, fun _ => ⟨base, fresh, state⟩⟩

theorem Follower.reported_holding (flag : Bool) : (f.reported flag).holding = flag := by
  unfold Follower.reported
  split
  · assumption
  · dsimp only
    split
    · unfold Follower.ended
      split <;> rfl
    · rfl

/-- The holding report of a record with no pending order (R116). -/
theorem Follower.reported_of_none (h : f.pendingOrder = none) (flag : Bool) : f.reported flag = { f with holding := flag } := by
  unfold Follower.reported
  split
  · rename_i e
    rw [← e]
  · rw [h]
    exact if_neg (by simp)

/-- The holding report of a record with a pending order (R116). -/
theorem Follower.reported_of_some {o : PendingOrder} (h : f.pendingOrder = some o) (flag : Bool) :
    (o.kind = .step → flag = true → f.holding = false →
      (f.reported flag).pendingOrder = none ∧ (f.reported flag).lastOutcome = some (.cancelled, .step)) ∧
    (o.kind ≠ .step ∨ flag = f.holding ∨ flag = false → (f.reported flag).pendingOrder = some o) := by
  unfold Follower.reported
  rw [h]
  refine ⟨fun hk hf hh => ?_, fun hkeep => ?_⟩
  · rw [if_neg (by simp [hh, hf])]
    dsimp only
    rw [if_pos (by simp [hf, hk]), Follower.ended_of_some (o := o) rfl, hk]
    exact ⟨rfl, rfl⟩
  · split
    · exact h
    · rename_i hne
      have stays : ¬ (flag = true ∧ (some o).map (·.kind) = some OrderKind.step) := by
        rintro ⟨ht, hs⟩
        rcases hkeep with hk | hk | hk
        · exact hk (by simpa using hs)
        · exact hne hk.symm
        · rw [hk] at ht; cases ht
      dsimp only
      rw [if_neg stays]

/-- Stage 3 of a record with a pending order, where the Reply acknowledges none (R116, R119). -/
theorem Follower.ordered_of_some {o : PendingOrder} (h : f.pendingOrder = some o) (silent : r.Silent carried) :
    let g := f.ordered carried r now
    g.holding = r.holding ∧
    (carried = none →
      (o.kind = .step → r.holding = true → f.holding = false → g.pendingOrder = none ∧ g.lastOutcome = some (.cancelled, .step)) ∧
      (o.kind ≠ .step ∨ r.holding = f.holding ∨ r.holding = false → g.pendingOrder = some o)) ∧
    (carried.isSome = true → 2 ≤ o.attempts → g.pendingOrder = none ∧ g.lastOutcome = some (.lost, o.kind)) ∧
    (carried.isSome = true → o.attempts < 2 →
      (o.kind = .step → r.holding = true → f.holding = false → g.pendingOrder = none ∧ g.lastOutcome = some (.cancelled, .step)) ∧
      (o.kind ≠ .step ∨ r.holding = f.holding ∨ r.holding = false → g.pendingOrder = some { o with attempts := o.attempts + 1 })) := by
  have attempted : f.attempted = if 3 ≤ o.attempts + 1 then f.ended .lost else { f with pendingOrder := some { o with attempts := o.attempts + 1 } } := by
    unfold Follower.attempted
    rw [h]
  rw [Follower.ordered_of_silent silent]
  refine ⟨Follower.reported_holding _, fun hc => ?_, fun hc ho => ?_, fun hc ho => ?_⟩
  · rw [if_neg (by simp [hc])]
    exact Follower.reported_of_some h _
  · rw [if_pos hc, attempted, if_pos (by omega), Follower.ended_of_some h, Follower.reported_of_none rfl]
    exact ⟨rfl, rfl⟩
  · rw [if_pos hc, attempted, if_neg (by omega)]
    exact Follower.reported_of_some (f := { f with pendingOrder := some { o with attempts := o.attempts + 1 } }) rfl _

/-- Stage 3 of a record with no pending order, where the Reply acknowledges none (R116). -/
theorem Follower.ordered_of_none (h : f.pendingOrder = none) (silent : r.Silent carried) :
    f.ordered carried r now = { f with holding := r.holding } := by
  have attempted : f.attempted = f := by unfold Follower.attempted; rw [h]
  rw [Follower.ordered_of_silent silent, attempted, ite_self, Follower.reported_of_none h]

end Record

/-! ## The link after stage 3 -/

section Link

variable {s : State} {i : FollowerId} {carried : Option OrderKind} {r : Reply}

theorem State.orderStage_link_of_none (h : (s.follower i).pendingOrder = none) (silent : r.Silent carried) :
    (s.orderStage i carried r).link = s.link := by
  have attempted : s.addAttempt i = s := by
    unfold State.addAttempt
    dsimp only
    rw [h]
  have reported : (s.holdingReport i r.holding).link = s.link := by
    unfold State.holdingReport
    dsimp only
    rw [h]
    split
    · rfl
    · rw [if_neg (by simp)]
      rfl
  unfold State.orderStage
  rw [attempted, ite_self]
  split
  · rename_i k result ha
    rw [if_neg (silent k result ha), reported]
  · exact reported

theorem State.orderStage_notices {o : PendingOrder} {k : OrderKind} {result : AckResult} (h : (s.follower i).pendingOrder = some o)
    (ha : r.ack = some (k, result)) (hc : carried = some k) (hn : (s.follower i).notify.onOrder = true) :
    (s.orderStage i carried r).link.events.followerNotice = true := by
  have run : s.orderStage i carried r = s.takeAck i k result := by
    unfold State.orderStage
    rw [ha]
    exact if_pos hc
  rw [run]
  cases result with
  | refused =>
    show (s.endOrder i .refused).link.events.followerNotice = true
    rw [State.endOrder_link]
    simp [h, hn]
  | done =>
    have kept : ((s.follower i).acknowledgeDone k s.now).pendingOrder = (s.follower i).pendingOrder ∧
        ((s.follower i).acknowledgeDone k s.now).notify = (s.follower i).notify := by
      cases k <;> simp only [Follower.acknowledgeDone, and_self] <;> split <;> exact ⟨rfl, rfl⟩
    show (State.endOrder _ i .done).link.events.followerNotice = true
    rw [State.endOrder_link, State.follower_setFollower_self, kept.1, kept.2]
    simp [h, hn]

end Link

/-! ## The obligation -/

theorem Follower.settled_noticed {f : Follower} (beyond following : Bool) (t4 : Nat) (h : f.notify.onTrusted = false) :
    (f.settled beyond following t4).noticed = f.noticed := by
  unfold Follower.settled
  dsimp only
  repeat' split
  all_goals simp [Follower.goodExchange, Follower.resettle, h]

theorem Follower.settled_active {f : Follower} (beyond following : Bool) (t4 : Nat) (h : f.state.active = true) :
    (f.settled beyond following t4).state.active = true := by
  obtain ⟨-, resettled, trusted, nearing, held⟩ := f.settled_cases beyond following t4
  cases hs : f.state with
  | stale => rw [(resettled (.inl hs)).1]; rfl
  | trusted =>
    cases beyond with
    | true => rw [(resettled (.inr ⟨.inr hs, rfl⟩)).1]; rfl
    | false => rw [(trusted hs rfl).1]; rfl
  | settling =>
    cases beyond with
    | true => rw [(resettled (.inr ⟨.inl hs, rfl⟩)).1]; rfl
    | false =>
      cases following with
      | false => rw [(held hs rfl rfl).1]; rfl
      | true =>
        rcases Nat.lt_or_ge f.settleCount 2 with hc | hc
        · rw [((nearing hs rfl rfl).1 (Nat.le_of_lt_succ hc)).1]; rfl
        · rw [((nearing hs rfl rfl).2 hc).1]; rfl
  | vacant | muted | retiring => rw [hs] at h; cases h

section Good

variable (s : State) (p : RackId) (x : Exchange) (c : Capture) (r : Reply)

theorem State.settledRecord_noticed (h : (s.follower x.follower).notify.onTrusted = false) :
    (s.settledRecord p x c r).noticed = (s.follower x.follower).noticed := by
  have published := (s.follower x.follower).publish_frame (s.newEstimate p x c r)
  unfold State.settledRecord
  generalize (s.follower x.follower).publish (s.newEstimate p x c r) = g at published ⊢
  rw [← published] at h ⊢
  exact Follower.settled_noticed _ _ _ h

theorem State.settledRecord_active (h : (s.follower x.follower).state.active = true) : (s.settledRecord p x c r).state.active = true :=
  Follower.settled_active _ _ _ (by rw [Follower.publish_state]; exact h)

theorem State.afterSettling_follower : (s.afterSettling p x c r).follower x.follower = s.settledRecord p x c r := by
  have rack : ((s.restartedAnnounce p r.restarted).rack p).trustOffset = (s.rack p).trustOffset := by
    rw [State.rack_restartedAnnounce, Rack.setAnnounce_eq]
    split <;> rfl
  have row : (s.restartedAnnounce p r.restarted).row = s.row := s.restartedAnnounce_row p r.restarted
  unfold State.afterSettling State.settledRecord State.newEstimate State.beyondTrust State.estimateStage
  dsimp only
  rw [State.follower_settleStage_self, State.follower_setFollower_self, State.restartedAnnounce_follower, State.port_restartedAnnounce,
    State.setFollower_rack, State.setFollower_row, rack, row]
  rfl

/-- The record that stage 3 of a good Reply finds. -/
def State.stageRecord : Follower := if (s.follower x.follower).state.active then s.settledRecord p x c r else s.follower x.follower

variable {s p x c r}

/-- Stage 3 of a good Reply of an active or Muted record: the record, what it finds there, and the link. -/
theorem State.processReply_stage (h : (s.follower x.follower).state.active = true ∨ (s.follower x.follower).state = .muted) :
    let f := s.follower x.follower
    let k := s.stageRecord p x c r
    let t := s.processReply p x c r
    t.follower x.follower = k.ordered x.order r s.now ∧
    (k.pendingOrder = f.pendingOrder ∧ k.holding = f.holding ∧ k.lastOutcome = f.lastOutcome ∧ k.notify = f.notify ∧
      k.settleReload = f.settleReload ∧ (f.state.active = true → k.state.active = true) ∧
      (f.notify.onTrusted = false → k.noticed = f.noticed)) ∧
    (∃ u : State, u.follower x.follower = k ∧ t.link = (u.orderStage x.follower x.order r).link ∧ (f.notify.onTrusted = false → u.link = s.link)) := by
  intro f k t
  by_cases ha : f.state.active = true
  · have hk : k = s.settledRecord p x c r := if_pos ha
    obtain ⟨⟨-, -, pending, holding, outcome, notify, reload⟩, -⟩ := s.settledRecord_cases p x c r
    rw [hk]
    refine ⟨?_, ⟨pending, holding, outcome, notify, reload, s.settledRecord_active p x c r, s.settledRecord_noticed p x c r⟩,
      s.afterSettling p x c r, s.afterSettling_follower p x c r, State.processReply_link_of_active ha, fun hn => ?_⟩
    · show State.follower _ _ = _
      rw [State.follower_processReply_active ha, if_pos rfl, State.repliedRecord_eq]
    · have none : s.trustNotice p x c r = false := by
        unfold State.trustNotice
        rw [show (s.follower x.follower).notify.onTrusted = false from hn, Bool.and_false]
      rw [State.afterSettling_link, none, Bool.or_false]
  · have hk : k = f := if_neg ha
    have hm := h.resolve_left ha
    rw [hk]
    refine ⟨?_, ⟨rfl, rfl, rfl, rfl, rfl, id, fun _ => rfl⟩, s.restartedAnnounce p r.restarted, s.restartedAnnounce_follower p _ _,
      State.processReply_link_of_muted hm, fun _ => s.restartedAnnounce_link p r.restarted⟩
    show State.follower _ _ = _
    rw [State.follower_processReply_muted hm, if_pos rfl]

end Good

/-- Settles O39: stage 3 of the record that stages 1 and 2 leave, or of a Muted one. -/
theorem goodReplyTakesAcknowledgement : Obligations.GoodReplyTakesAcknowledgement := by
  intro s p x capture received r hx hp hr f trip turn hok hstate h0 h1 hd
  refine ⟨_, exec_goodReply hx hp hr hok h0 h1 hd, ?_⟩
  obtain ⟨record, ⟨pending, holding, outcome, notify, reload, active, noticed⟩, u, hu, link, quiet⟩ :=
    State.processReply_stage (s := s) (p := p) (c := capture) (r := r) hstate
  generalize s.stageRecord p x capture r = k at *
  generalize s.processReply p x capture r = t at *
  intro g
  have hg : g = k.ordered x.order r s.now := record
  clear_value g
  subst hg
  refine ⟨fun hnone silent => ?_, fun o ho => ⟨fun kind result ha hc => ?_, fun silent => ?_⟩⟩
  · rw [Follower.ordered_of_none (pending.trans hnone) silent]
    refine ⟨rfl, pending.trans hnone, outcome, fun hn => ⟨noticed hn, ?_⟩⟩
    rw [link, State.orderStage_link_of_none (by rw [hu]; exact pending.trans hnone) silent, quiet hn]
  · obtain ⟨⟨gone, told⟩, refused, done⟩ := Follower.acked_of_some (now := s.now) (pending.trans ho) kind result
    rw [Follower.ordered_of_taken ha hc]
    rw [holding] at refused done
    rw [notify] at told
    refine ⟨gone, fun hn => ⟨told hn, ?_⟩, refused, fun hd => ?_⟩
    · rw [link]
      exact State.orderStage_notices (by rw [hu]; exact pending.trans ho) ha hc (by rw [hu, notify]; exact hn)
    · obtain ⟨outcome, holding, restart⟩ := done hd
      refine ⟨outcome, holding, fun hk => ?_⟩
      obtain ⟨base, fresh, state⟩ := restart hk
      exact ⟨base, fresh, fun hs => reload ▸ state (active hs)⟩
  · have stage := Follower.ordered_of_some (now := s.now) (pending.trans ho) silent
    rw [holding] at stage
    exact stage

end Sys2Proof.Machine

/-! PROOFS. A good Reply, continued: the asks answered and the Verdict begun (R83, R88, R135, R137, R138, R145). -/

namespace Sys2Proof.Machine

/-! ## Answers to asks -/

/-- Insertion after every fence whose bound does not exceed the new one's (R135). -/
theorem insertByBound_eq (f : Fence) (l : List Fence) : insertByBound f l =
    (l.takeWhile fun h => decide (h.bound ≤ f.bound)) ++ f :: (l.dropWhile fun h => decide (h.bound ≤ f.bound)) := by
  induction l with
  | nil => rfl
  | cons g l ih =>
    unfold insertByBound
    by_cases h : g.bound ≤ f.bound
    · rw [if_pos h, ih, List.takeWhile_cons_of_pos (by simp [h]), List.dropWhile_cons_of_pos (by simp [h])]
      rfl
    · rw [if_neg h, List.takeWhile_cons_of_neg (by simp [h]), List.dropWhile_cons_of_neg (by simp [h])]
      rfl

/-- The checks of R137 in order. -/
theorem State.fenceAnswer_eq (s : State) (f : Follower) (c : Capture) (bound : Nat) : s.fenceAnswer f c bound =
    if f.kind = .server then .notStorage
    else if s.row.state = .warming ∨ s.row.state = .acquiring then .notReady
    else if s.row.state = .free then .free
    else if c.clears bound then .clear
    else if c.t4 + second * s.fences.horizon < bound then .far
    else if 64 ≤ s.fences.list.length then .full
    else .held := rfl

/-- An answer to a Fence ask is read from the row, the list and the record alone. -/
theorem State.fenceAnswer_congr {s u : State} (row : u.row = s.row) (fences : u.fences = s.fences) (f : Follower) (c : Capture) (bound : Nat) :
    u.fenceAnswer f c bound = s.fenceAnswer f c bound := by
  rw [State.fenceAnswer_eq, State.fenceAnswer_eq, row, fences]

theorem Capture.clears_iff (c : Capture) (bound : Nat) : c.clears bound = true ↔
    (c.rowState = .locked ∨ c.rowState = .holdover ∨ c.rowState = .acquiring) ∧ (bound : Int) < (c.t4 : Int) - c.ur := by
  unfold Capture.clears
  cases c.rowState <;> simp <;> omega

/-- A pending Announce plays no part in the answer to a Date ask. -/
theorem State.dateAnswer_restartedAnnounce (s : State) (p : RackId) (b : Bool) (a : RowState) (f : Follower) (t3 capture : Nat) :
    dateAnswer a f ((s.restartedAnnounce p b).rack p) t3 capture = dateAnswer a f (s.rack p) t3 capture := by
  rw [State.rack_restartedAnnounce, Rack.setAnnounce_eq]
  split <;> rfl

section Asks

variable (s : State) (p : RackId) (i : FollowerId) (c : Capture) (t3 : Nat)

/-- Each ask is answered on the part as the asks before it leave it (R123, R137). -/
theorem State.answerAsks_get {asks : List Ask} {k : Nat} {a : Ask} (h : asks[k]? = some a) :
    let u := (s.answerAsks p i c t3 (asks.take k)).1
    (s.answerAsks p i c t3 asks).2[k]? = some (u.answerAsk p i c t3 a).2 ∧
      (s.answerAsks p i c t3 (asks.take (k + 1))).1 = (u.answerAsk p i c t3 a).1 := by
  induction asks generalizing s k with
  | nil => simp at h
  | cons b asks ih =>
    cases k with
    | zero =>
      obtain rfl : b = a := by simpa using h
      exact ⟨rfl, rfl⟩
    | succ k => exact ih (s.answerAsk p i c t3 b).1 (by simpa using h)

/-- A Fence ask: its answer, and the fence that a Held answer inserts (R137, R138). -/
theorem State.answerAsk_fence (tag : Byte) (bound : Nat) :
    let answer := s.fenceAnswer (s.follower i) c bound
    (s.answerAsk p i c t3 (.fence tag bound)).2 = .fence tag answer ∧
    (answer ≠ .held → (s.answerAsk p i c t3 (.fence tag bound)).1 = s) ∧
    (answer = .held → (s.answerAsk p i c t3 (.fence tag bound)).1 = s.insertFence i tag bound) :=
  ⟨rfl, fun h => if_neg h, fun h => if_pos h⟩

theorem State.insertFence_fences (tag : Byte) (bound : Nat) : (s.insertFence i tag bound).fences = { s.fences with
    list := (s.fences.list.takeWhile fun h => decide (h.bound ≤ bound)) ++
      { follower := i, tag := tag, bound := bound, state := .waiting, lastChange := s.row.whole, serial := s.fences.nextSerial } ::
      (s.fences.list.dropWhile fun h => decide (h.bound ≤ bound))
    nextSerial := s.fences.nextSerial + 1 } := by
  show ({ s.fences with list := insertByBound _ _, nextSerial := _ } : FenceList) = _
  rw [insertByBound_eq]
  rfl

end Asks

/-! ## The Verdict -/

section Verdict

variable {s : State} {p : RackId} {x : Exchange}

/-- Clearing before the Verdict, fence by fence (R138, R139). -/
theorem State.clearBeforeVerdict_fences (u : State) : u.clearBeforeVerdict.fences = u.fences ∨
    u.clearBeforeVerdict.fences = { u.fences with list := u.fences.list.map u.clearFence } :=
  u.clearBeforeVerdict_cases.1

/-- The port of a Verdict, whose answers and reported fences are given (R83, R145). -/
theorem State.sendVerdict_port (u : State) (answers : List Notice) :
    let reported := (u.fences.list.filter fun g => g.follower == x.follower && g.state != .waiting).take (6 - answers.length)
    let notices := answers ++ reported.map fun g => .fenceState g.tag g.bound g.state
    (u.sendVerdict p x answers).port p = { u.port p with
      exchange := some { x with phase := .verdict, notices := notices, carried := reported.map (·.serial) }
      transmitting := some ⟨verdictFrame (BitVec.ofNat 8 (u.follower x.follower).slot.val) x.sequence notices, u.elapsed⟩ } :=
  State.port_setPort_self _ _ _

theorem State.sendVerdict_rack_ne (u : State) (answers : List Notice) {k : RackId} (h : p ≠ k) :
    (u.sendVerdict p x answers).rack k = u.rack k := by
  unfold State.sendVerdict
  rw [State.rack_setPort, if_neg h]

variable {c : Capture} {r : Reply}

theorem State.restartedAnnounce_rack_ne (b : Bool) {k : RackId} (h : p ≠ k) : (s.restartedAnnounce p b).rack k = s.rack k := by
  rw [State.rack_restartedAnnounce, if_neg fun e => h e.1]

/-- A good Reply leaves the other racks. -/
theorem State.processReply_rack_ne {k : RackId} (h : p ≠ k) : (s.processReply p x c r).rack k = s.rack k := by
  have verdict (u : State) (hu : u.racks = (s.restartedAnnounce p r.restarted).racks) (l : List Notice) :
      (u.clearBeforeVerdict.sendVerdict p x l).rack k = s.rack k := by
    rw [State.sendVerdict_rack_ne _ _ h, State.rack_congr ((State.clearBeforeVerdict_racks u).trans hu),
      State.restartedAnnounce_rack_ne _ h]
  by_cases ha : (s.follower x.follower).state.active = true
  · rw [State.processReply_of_active ha]
    exact verdict _ ((State.answerAsks_racks _ _ _ _ _ _).trans State.afterStages_racks) _
  · by_cases hm : (s.follower x.follower).state = .muted
    · rw [State.processReply_of_muted hm]
      exact verdict _ (State.orderStage_racks _ _ _ _) _
    · rw [State.processReply_of_leaving (FollowerState.leaving_of ha hm), State.rack_endExchange_ne _ _ h,
        State.restartedAnnounce_rack_ne _ h]

/-- A good Reply leaves the other records. -/
theorem State.processReply_follower_ne (hx : (s.port p).exchange = some x) {j : FollowerId} (h : j ≠ x.follower) :
    (s.processReply p x c r).follower j = s.follower j := by
  by_cases ha : (s.follower x.follower).state.active = true
  · rw [State.follower_processReply_active ha, if_neg (Ne.symm h)]
  · by_cases hm : (s.follower x.follower).state = .muted
    · rw [State.follower_processReply_muted hm, if_neg (Ne.symm h)]
    · rw [State.follower_processReply_leaving hx (FollowerState.leaving_of ha hm), if_neg fun e => h e.1]

theorem State.afterStages_slot : ((s.afterStages p x c r).follower x.follower).slot = (s.follower x.follower).slot := by
  rw [State.follower_afterStages_self]
  have settled (f : Follower) (b a : Bool) (t4 : Nat) : (f.settled b a t4).slot = f.slot := by
    rcases f.keeps_settled b a t4 with k | ⟨-, -, -, -, e⟩
    · exact k.slot
    · rw [e]; rfl
  exact (Follower.keeps_ordered _ _ _ _).slot.trans ((settled _ _ _ _).trans (Follower.publish_place _ _).2)

/-- A good Reply of an active or Muted record: the answers, the list as each ask leaves it, and the part before the Verdict (R88, R137). -/
theorem State.processReply_verdict (h : (s.follower x.follower).state.active = true ∨ (s.follower x.follower).state = .muted) :
    ∃ (u : State) (answers : List Notice) (fences : Nat → FenceList),
      s.processReply p x c r = u.clearBeforeVerdict.sendVerdict p x answers ∧
      (u.row = s.row ∧ u.racks = (s.restartedAnnounce p r.restarted).racks ∧ u.elapsed = s.elapsed ∧
        (u.follower x.follower).slot = (s.follower x.follower).slot ∧ u.fences = fences r.asks.length) ∧
      answers.length = r.asks.length ∧ fences 0 = s.fences ∧
      ((s.follower x.follower).state.active = true →
        (∀ (k : Nat) (tag : Byte) (capture : Nat), r.asks[k]? = some (.date tag capture) →
          answers[k]? = some (.date tag (dateAnswer s.row.state (u.follower x.follower) (s.rack p) r.t3 capture)) ∧
            fences (k + 1) = fences k) ∧
        (∀ (k : Nat) (tag : Byte) (bound : Nat), r.asks[k]? = some (.fence tag bound) →
          let answer := ({ s with fences := fences k } : State).fenceAnswer (u.follower x.follower) c bound
          answers[k]? = some (.fence tag answer) ∧ (answer ≠ .held → fences (k + 1) = fences k) ∧
          (answer = .held → fences (k + 1) = { fences k with
            list := ((fences k).list.takeWhile fun h => decide (h.bound ≤ bound)) ++
              { follower := x.follower, tag := tag, bound := bound, state := .waiting, lastChange := s.row.whole
                serial := (fences k).nextSerial } ::
              ((fences k).list.dropWhile fun h => decide (h.bound ≤ bound))
            nextSerial := (fences k).nextSerial + 1 }))) ∧
      ((s.follower x.follower).state = .muted → (∀ k, fences k = s.fences) ∧ answers = r.asks.map Ask.withdrawn) := by
  by_cases ha : (s.follower x.follower).state.active = true
  · let a := s.afterStages p x c r
    let asked (k : Nat) : State := (a.answerAsks p x.follower c r.t3 (r.asks.take k)).1
    have whole : asked r.asks.length = (a.answerAsks p x.follower c r.t3 r.asks).1 := by
      show (a.answerAsks _ _ _ _ _).1 = _
      rw [List.take_length]
    have arow : a.row = s.row := by
      show (s.afterStages p x c r).row = _
      unfold State.afterStages
      simp
    have aelapsed : a.elapsed = s.elapsed := by
      show (s.afterStages p x c r).elapsed = _
      unfold State.afterStages
      simp
    have row (k : Nat) : (asked k).row = s.row := (State.answerAsks_row _ _ _ _ _ _).trans arow
    have record (k : Nat) : (asked k).follower x.follower = a.follower x.follower := a.answerAsks_follower _ _ _ _ _ _
    have rack (k : Nat) : (asked k).rack p = (s.restartedAnnounce p r.restarted).rack p :=
      State.rack_congr ((State.answerAsks_racks _ _ _ _ _ _).trans State.afterStages_racks) p
    refine ⟨asked r.asks.length, (a.answerAsks p x.follower c r.t3 r.asks).2, fun k => (asked k).fences, ?_, ⟨row _, ?_, ?_, ?_, rfl⟩,
      State.answerAsks_length _ _ _ _ _ _, State.afterStages_fences, fun _ => ⟨fun k tag capture hk => ?_, fun k tag bound hk => ?_⟩,
      fun hm => ?_⟩
    · rw [whole]
      exact State.processReply_of_active ha
    · exact (State.answerAsks_racks _ _ _ _ _ _).trans State.afterStages_racks
    · exact (State.answerAsks_elapsed _ _ _ _ _ _).trans aelapsed
    · rw [record]
      exact State.afterStages_slot
    · obtain ⟨answer, next⟩ := a.answerAsks_get p x.follower c r.t3 hk
      refine ⟨answer.trans ?_, congrArg State.fences next⟩
      show some (Notice.date tag (dateAnswer (asked k).row.state ((asked k).follower x.follower) ((asked k).rack p) r.t3 capture)) = _
      rw [row, record, rack, State.dateAnswer_restartedAnnounce, record]
    · obtain ⟨answer, next⟩ := a.answerAsks_get p x.follower c r.t3 hk
      obtain ⟨given, unheld, held⟩ := (asked k).answerAsk_fence p x.follower c r.t3 tag bound
      have same : ({ s with fences := (asked k).fences } : State).fenceAnswer ((asked r.asks.length).follower x.follower) c bound =
          (asked k).fenceAnswer ((asked k).follower x.follower) c bound := by
        rw [record, record]
        exact (State.fenceAnswer_congr (s := { s with fences := (asked k).fences }) (row k) rfl _ _ _).symm
      intro answer'
      have hanswer : answer' = (asked k).fenceAnswer ((asked k).follower x.follower) c bound := same
      clear_value answer'
      subst hanswer
      refine ⟨answer.trans (congrArg some given), fun h => congrArg State.fences (next.trans (unheld h)), fun h => ?_⟩
      refine (congrArg State.fences (next.trans (held h))).trans (((asked k).insertFence_fences x.follower tag bound).trans ?_)
      rw [row]
    · rw [hm] at ha
      cases ha
  · have hm := h.resolve_left ha
    refine ⟨(s.restartedAnnounce p r.restarted).orderStage x.follower x.order r, r.asks.map Ask.withdrawn, fun _ => s.fences,
      State.processReply_of_muted hm, ⟨by simp, by simp, by simp, ?_, by simp⟩, List.length_map _, rfl, fun e => absurd e ha,
      fun _ => ⟨fun _ => rfl, rfl⟩⟩
    rw [State.follower_orderStage_self, State.restartedAnnounce_follower]
    exact (Follower.keeps_ordered _ _ _ _).slot

end Verdict

/-- The 20 bytes of a notice, by its kind (R170). -/
theorem Notice.bytes_eq (n : Notice) (code flags : Answer → Byte) (values : Answer → List Byte) (hc : ∀ a, code a = a.code)
    (hf : ∀ a, flags a = a.flags) (hv : ∀ a, values a = beBytes 8 a.values.1 ++ beBytes 8 a.values.2) :
    n.bytes = match n with
      | .date tag a => [0x01, tag, code a, flags a] ++ values a
      | .fence tag a => [0x02, tag, code a, flags a] ++ values a
      | .fenceState tag bound st => [0x03, tag, st.noticeCode, 0x00] ++ beBytes 8 bound ++ List.replicate 8 0x00 := by
  cases n with
  | date tag a | fence tag a =>
    dsimp only
    rw [hc, hf, hv, ← List.append_assoc]
    rfl
  | fenceState tag bound st => rfl

/-- Settles O40. -/
theorem goodReplyBeginsVerdict : Obligations.GoodReplyBeginsVerdict := by
  refine ⟨fun u f capture bound => ?_, fun s p x capture received r hx hp hr => ?_⟩
  · intro answer passed
    have check : answer = _ := u.fenceAnswer_eq f capture bound
    have clears : capture.clears bound = true ↔ passed := capture.clears_iff bound
    clear_value answer
    subst check
    refine ⟨fun hk => if_pos hk, fun hk => ?_⟩
    have storage : ¬ f.kind = .server := by rw [hk]; nofun
    rw [if_neg storage]
    refine ⟨fun h => if_pos h, fun h => ?_, fun h => ?_⟩
    · rw [if_neg (by simp [h]), if_pos h]
    · rw [if_neg (by rcases h with h | h <;> simp [h]), if_neg (by rcases h with h | h <;> simp [h])]
      refine ⟨fun hpass => if_pos (clears.mpr hpass), fun hpass => ?_⟩
      rw [if_neg (fun e => hpass (clears.mp e))]
      refine ⟨fun hfar => if_pos hfar, fun hnear => ?_⟩
      have near : ¬ capture.t4 + second * u.fences.horizon < bound := Nat.not_lt.mpr hnear
      rw [if_neg near]
      exact ⟨fun hfull => if_pos hfull, fun hroom => if_neg (Nat.not_le.mpr hroom)⟩
  · intro f trip turn hok h0 h1 hd
    have few : r.asks.length ≤ 3 := parseReply_asks hok
    refine ⟨_, exec_goodReply hx hp hr hok h0 h1 hd, State.processReply_row _ _ _ _ _, State.processReply_selector _ _ _ _ _,
      State.processReply_lines _ _ _ _ _, State.processReply_elapsed _ _ _ _ _, State.processReply_boundaries _ _ _ _ _,
      fun k hk => State.processReply_rack_ne hk.symm, fun j hj => State.processReply_follower_ne hx hj, fun hstate => ?_, fun hret => ?_⟩
    · obtain ⟨u, answers, fences, run, ⟨row, racks, elapsed, slot, last⟩, length, first, active, muted⟩ :=
        State.processReply_verdict (s := s) (p := p) (c := capture) (r := r) hstate
      have record : (s.processReply p x capture r).follower x.follower = u.follower x.follower := by
        rw [run, State.sendVerdict_follower, State.clearBeforeVerdict_follower]
      have tfences : (s.processReply p x capture r).fences = u.clearBeforeVerdict.fences := by rw [run, State.sendVerdict_fences]
      refine ⟨answers, fences, length, length.trans_le few, first, fun ha k a hk => ?_, fun hm => ⟨(muted hm).1, fun k a hk => ?_⟩, ?_⟩
      · obtain ⟨date, fence⟩ := active ha
        intro g
        have hg : g = u.follower x.follower := record
        clear_value g
        subst hg
        cases a with
        | date tag c => exact date k tag c hk
        | fence tag bound => exact fence k tag bound hk
      · rw [(muted hm).2, List.getElem?_map, hk]
        cases a <;> rfl
      · intro final passed cleared
        have cleared_eq : cleared = u.clearFence := by
          funext h
          unfold State.clearFence State.clearable State.passesDue State.now
          rw [row, ← Bool.and_assoc]
          rfl
        rw [tfences]
        refine ⟨?_, ?_⟩
        · rcases u.clearBeforeVerdict_fences with e | e
          · exact .inl (e.trans last)
          · exact .inr (by rw [e, last, cleared_eq])
        · intro reported notices code flags values noticeBytes fields covered
          have bytes : noticeBytes = Notice.bytes := by
            funext n
            have hcode (a : Answer) : code a = a.code := by cases a <;> rfl
            have hflags (a : Answer) : flags a = a.flags := by
              cases a with
              | dated _ _ holdover widened => cases holdover <;> cases widened <;> rfl
              | _ => rfl
            have hvalues (a : Answer) : values a = beBytes 8 a.values.1 ++ beBytes 8 a.values.2 := by cases a <;> rfl
            rw [n.bytes_eq code flags values hcode hflags hvalues]
            cases n <;> rfl
          have port := u.clearBeforeVerdict.sendVerdict_port (p := p) (x := x) answers
          have before : u.clearBeforeVerdict.port p = { s.port p with
              pendingAnnounce := (s.port p).pendingAnnounce || (r.restarted && (s.port p).state == .running) } := by
            rw [State.port_congr ((State.clearBeforeVerdict_racks u).trans racks), State.port_restartedAnnounce]
          have frame : verdictFrame (BitVec.ofNat 8 f.slot.val) x.sequence notices = [0xA6] ++ covered ++ beBytes 2 (frameCheck covered).toNat := by
            clear_value noticeBytes
            subst bytes
            rfl
          rw [run]
          refine port.trans ?_
          rw [before, State.clearBeforeVerdict_follower, slot, State.clearBeforeVerdict_elapsed, elapsed, ← frame]
    · have ended := State.processReply_of_leaving (p := p) (c := capture) (r := r) (.inr hret)
      have hx' : ((s.restartedAnnounce p r.restarted).port p).exchange = some x := by rw [State.restartedAnnounce_exchange, hx]
      have vacated := State.follower_processReply_leaving (c := capture) (r := r) hx (.inr hret) x.follower
      rw [if_pos ⟨rfl, hret⟩] at vacated
      have port : (s.processReply p x capture r).port p = ((s.restartedAnnounce p r.restarted).port p).rest .idle := by
        rw [ended, State.port_endExchange, if_pos ⟨rfl, by rw [hx']; rfl⟩]
      refine ⟨by rw [vacated]; rfl, by rw [port]; rfl, by rw [port]; rfl, by rw [port]; rfl, fun g hg => ?_⟩
      have retiring : ((s.restartedAnnounce p r.restarted).follower x.follower).state = .retiring := by
        rw [State.restartedAnnounce_follower]
        exact hret
      rw [ended, State.endExchange_fences, State.filter_goneBy hx', if_pos retiring] at hg
      simpa using (List.mem_filter.mp hg).2

end Sys2Proof.Machine

/-! PROOFS. The end of a Verdict, and the transmit guard (R77, R89, R93, R144, R146). -/

namespace Sys2Proof.Machine

section Ends

variable {s : State} {p : RackId}

/-- The end of an exchange writes the records, the racks, the fences and the link, and nothing else. -/
theorem State.endExchange_frame (a : Activity) :
    { s.endExchange p a with followers := s.followers, racks := s.racks, fences := s.fences, link := s.link } = s := by
  simp only [State.endExchange_elapsed, State.endExchange_row, State.endExchange_selector, State.endExchange_lines,
    State.endExchange_pulseWindow, State.endExchange_boundaries, State.endExchange_choices, State.endExchange_pending,
    State.endExchange_wires]

theorem State.endExchange_portHalted (a : Activity) : (s.endExchange p a).link.events.portHalted = s.link.events.portHalted := by
  unfold State.endExchange
  split
  · rfl
  · dsimp only
    split
    · rw [State.vacate_link]
      rfl
    · rfl

theorem State.rack_leaveRunning_ne {k : RackId} (h : p ≠ k) (a : PortState) : (s.leaveRunning p a).rack k = s.rack k := by
  unfold State.leaveRunning
  dsimp only
  rw [State.rack_setPort, if_neg h, State.rack_endExchange_ne _ _ h]

theorem State.leaveRunning_follower (a : PortState) (i : FollowerId) :
    (s.leaveRunning p a).follower i = if s.goneBy [p] i then (s.follower i).retired else s.follower i :=
  s.endExchange_follower p .idle i

theorem State.leaveRunning_fences (a : PortState) :
    (s.leaveRunning p a).fences = { s.fences with list := s.fences.list.filter fun f => !s.goneBy [p] f.follower } :=
  s.endExchange_fences p .idle

/-- A port that leaves Running writes the records, the racks, the fences and the link, and nothing else. -/
theorem State.leaveRunning_frame (a : PortState) :
    { s.leaveRunning p a with followers := s.followers, racks := s.racks, fences := s.fences, link := s.link } = s :=
  State.endExchange_frame (s := s) (p := p) .idle

end Ends

/-- Settles O41. -/
theorem verdictEndDeliversItsFences : Obligations.VerdictEndDeliversItsFences := by
  intro s p x hx hphase kept idle
  have run : exec (.verdictEnd p) s = .next ((s.removeCarried x.carried).endExchange p .idle) := by
    refine congrArg Host.Outcome.next ?_
    rw [hx]
    exact if_pos hphase
  have hx' : ((s.removeCarried x.carried).port p).exchange = some x := hx
  refine ⟨fun h => run.trans (congrArg _ ?_), fun h => ⟨_, run, ?_, ?_, ?_, ?_, fun j hj => ?_, ?_⟩⟩
  · unfold State.endExchange
    rw [hx']
    exact if_neg h
  · rw [State.port_endExchange, if_pos ⟨rfl, by rw [hx']; rfl⟩]
    rfl
  · rw [State.follower_endExchange _ _ hx', if_pos ⟨rfl, h⟩]
    rfl
  · rw [State.follower_endExchange _ _ hx', if_pos ⟨rfl, h⟩]
    rfl
  · have retiring : ((s.removeCarried x.carried).follower x.follower).state = .retiring := h
    rw [State.endExchange_fences, State.filter_goneBy hx', if_pos retiring]
    refine congrArg (fun l => ({ s.fences with list := l } : FenceList)) (List.filter_congr fun f _ => ?_)
    by_cases e : f.follower = x.follower <;> simp [e]
  · rw [State.follower_endExchange _ _ hx', if_neg fun e => hj e.1]
    rfl
  · exact congrArg (fun u : State => { u with fences := s.fences }) (State.endExchange_frame (s := s.removeCarried x.carried) (p := p) .idle)

/-- Settles O42. -/
theorem transmitGuardHaltsThePort : Obligations.TransmitGuardHaltsThePort := by
  intro s p tr htr hlong
  have due : s.guardDue p = true := by
    have long : (decide (tr.start + elapsedNs transmitGuard < s.elapsed)) = true := decide_eq_true hlong
    rw [State.guardDue, htr, Option.any_some, long]
  refine ⟨_, congrArg Host.Outcome.next (if_pos due), ?_, ?_, fun i hi => ?_, fun x hx hr => ?_, fun h => ?_, fun q hq => ?_,
    State.leaveRunning_frame .halted⟩
  · exact (State.port_leaveRunning _ _ _ _).trans (if_pos rfl)
  · exact congrArg (· ||| rackBit p) (State.endExchange_portHalted (s := s) (p := p) .idle)
  · refine (State.leaveRunning_follower .halted i).trans (if_neg fun e => ?_)
    obtain ⟨hr, q, hq, named⟩ := State.goneBy_iff.mp e
    obtain rfl := List.mem_singleton.mp hq
    obtain ⟨x, hx, rfl⟩ := Option.map_eq_some_iff.mp named
    exact hi x hx rfl hr
  · refine congrArg Follower.state ((State.leaveRunning_follower .halted x.follower).trans (if_pos ?_))
    exact (State.goneBy_one hx _).mpr ⟨rfl, hr⟩
  · refine (State.leaveRunning_fences .halted).trans ?_
    refine congrArg (fun l => ({ s.fences with list := l } : FenceList)) (List.filter_eq_self.mpr fun f _ => ?_)
    rw [Bool.not_eq_true', Bool.eq_false_iff]
    intro e
    obtain ⟨hr, q, hq, named⟩ := State.goneBy_iff.mp e
    obtain rfl := List.mem_singleton.mp hq
    obtain ⟨x, hx, e⟩ := Option.map_eq_some_iff.mp named
    exact h x hx (e ▸ hr)
  · exact State.rack_leaveRunning_ne hq.symm .halted

end Sys2Proof.Machine

/-! PROOFS. AMEND-RACK (R53, R75 to R77, R95, R124, R149, R157). -/

namespace Sys2Proof.Machine

/-! ## The drift parameters (R149, R157) -/

/-- Taking expiries writes the counters and the warning alone. -/
theorem Drift.taken_frame (d : Drift) : { d.persistenceTaken.calmTaken with
    persistence := d.persistence, calm := d.calm, warning := d.warning, acknowledged := d.acknowledged } = d := by
  have persistence : { d.persistenceTaken with
      persistence := d.persistence, calm := d.calm, warning := d.warning, acknowledged := d.acknowledged } = d := by
    unfold Drift.persistenceTaken
    split
    · split <;> rfl
    · rfl
  have calm (e : Drift) : { e.calmTaken with
      persistence := d.persistence, calm := d.calm, warning := d.warning, acknowledged := d.acknowledged } = { e with
      persistence := d.persistence, calm := d.calm, warning := d.warning, acknowledged := d.acknowledged } := by
    unfold Drift.calmTaken
    split
    · split <;> rfl
    · rfl
  exact (calm _).trans persistence

theorem Drift.taken_kept (d : Drift) :
    let f := d.persistenceTaken.calmTaken
    f.minMembers = d.minMembers ∧ f.leanRate = d.leanRate ∧ f.excessRate = d.excessRate ∧ f.leanOffset = d.leanOffset ∧
    f.excessOffset = d.excessOffset ∧ f.members = d.members ∧ f.meanRate = d.meanRate ∧ f.widest = d.widest ∧ f.state = d.state := by
  have frame := d.taken_frame
  generalize d.persistenceTaken.calmTaken = f at frame ⊢
  rw [← frame]
  exact ⟨rfl, rfl, rfl, rfl, rfl, rfl, rfl, rfl, rfl⟩

/-- The drift fields after an AMEND-RACK. -/
def Drift.redrifted (d : Drift) (presence : Nat) (o : RackOperands) : Drift :=
  if carriesDrift presence then (d.persistenceTaken.calmTaken.amend presence o).reloadCounters else d

section Blocks

variable (s : State) (p : RackId)

theorem State.rack_amendDrift (presence : Nat) (o : RackOperands) (k : RackId) : (s.amendDrift p presence o).rack k =
    if p = k then { s.rack k with drift := (s.rack k).drift.redrifted presence o } else s.rack k := by
  unfold State.amendDrift Drift.redrifted
  split
  · rename_i hc
    dsimp only
    rw [State.rack_setDrift, State.rack_takeExpiries, State.rack_takeExpiries, if_pos rfl]
    by_cases e : p = k
    · subst e
      simp only [if_true]
    · simp only [if_neg e]
  · split <;> rfl

/-- Drift parameters write the racks and the link, and nothing else. -/
theorem State.amendDrift_frame (presence : Nat) (o : RackOperands) :
    { s.amendDrift p presence o with racks := s.racks, link := s.link } = s := by
  unfold State.amendDrift
  split
  · simp
  · rfl

/-! ## The port (R76, R77) -/

/-- A port after the enabled field of an AMEND-RACK. -/
def Port.enabledBy (q : Port) (enabled : Option Bool) : Port :=
  match enabled with
  | none => q
  | some true => if q.state = .running then q else { q with state := .running, activity := .idle, pendingAnnounce := true }
  | some false =>
    match q.state with
    | .running => { q.rest .idle with state := .disabled, pendingAnnounce := false, quietEnd := none }
    | .halted => { q with state := .disabled }
    | .disabled => q

theorem State.port_amendEnabled (enabled : Option Bool) : (s.amendEnabled p enabled).port p = (s.port p).enabledBy enabled := by
  cases enabled with
  | none => rfl
  | some on =>
    cases on with
    | true =>
      show (s.enablePort p).port p = _
      unfold State.enablePort Port.enabledBy
      dsimp only
      split
      · rfl
      · exact State.port_setPort_self _ _ _
    | false =>
      show (s.disablePort p).port p = _
      unfold State.disablePort Port.enabledBy
      dsimp only
      cases h : (s.port p).state with
      | running => exact (State.port_leaveRunning _ _ _ _).trans (if_pos rfl)
      | halted => exact State.port_setPort_self _ _ _
      | disabled => rfl

/-- The enabled field writes the port alone of a rack. -/
theorem State.amendEnabled_rack (enabled : Option Bool) (k : RackId) :
    { (s.amendEnabled p enabled).rack k with port := (s.rack k).port } = s.rack k ∧ (p ≠ k → (s.amendEnabled p enabled).rack k = s.rack k) := by
  have set (q : Port) : { (s.setPort p q).rack k with port := (s.rack k).port } = s.rack k ∧ (p ≠ k → (s.setPort p q).rack k = s.rack k) := by
    refine ⟨?_, fun h => by rw [State.rack_setPort, if_neg h]⟩
    rw [State.rack_setPort]
    split <;> rfl
  cases enabled with
  | none => exact ⟨rfl, fun _ => rfl⟩
  | some on =>
    cases on with
    | true =>
      rw [show s.amendEnabled p (some true) = s.enablePort p from rfl]
      unfold State.enablePort
      dsimp only
      split
      · exact ⟨rfl, fun _ => rfl⟩
      · exact set _
    | false =>
      rw [show s.amendEnabled p (some false) = s.disablePort p from rfl]
      unfold State.disablePort
      dsimp only
      cases (s.port p).state with
      | running =>
        refine ⟨?_, fun h => State.rack_leaveRunning_ne h _⟩
        unfold State.leaveRunning
        dsimp only
        rw [State.rack_setPort]
        split <;> exact s.endExchange_rack p k .idle
      | halted => exact set _
      | disabled => exact ⟨rfl, fun _ => rfl⟩

/-- The enabled field closes a Running port. -/
def State.closes (enabled : Option Bool) : Bool := enabled == some false && (s.port p).state == .running

theorem State.amendEnabled_of_closes {enabled : Option Bool} (h : s.closes p enabled = true) :
    s.amendEnabled p enabled = s.leaveRunning p .disabled := by
  obtain ⟨he, hs⟩ := Bool.and_eq_true_iff.mp h
  rw [beq_iff_eq] at he hs
  subst he
  show s.disablePort p = _
  unfold State.disablePort
  dsimp only
  rw [hs]

/-- Where no Running port is closed, the enabled field writes the racks alone. -/
theorem State.amendEnabled_of_stays {enabled : Option Bool} (h : s.closes p enabled = false) :
    { s.amendEnabled p enabled with racks := s.racks } = s := by
  cases enabled with
  | none => rfl
  | some on =>
    cases on with
    | true =>
      show ({ s.enablePort p with racks := s.racks } : State) = s
      unfold State.enablePort
      dsimp only
      split <;> rfl
    | false =>
      have stopped : (s.port p).state ≠ .running := fun e => by simp [State.closes, e] at h
      show ({ s.disablePort p with racks := s.racks } : State) = s
      unfold State.disablePort
      dsimp only
      cases hs : (s.port p).state with
      | running => exact absurd hs stopped
      | halted | disabled => rfl

/-- The records and fences after the enabled field: those of a Retiring record whose exchange a closing port abandons (R61, R77, R144). -/
theorem State.amendEnabled_records_fences (enabled : Option Bool) :
    (∀ i, (s.amendEnabled p enabled).follower i =
      if s.closes p enabled && s.goneBy [p] i then (s.follower i).retired else s.follower i) ∧
    (s.amendEnabled p enabled).fences =
      { s.fences with list := s.fences.list.filter fun f => !(s.closes p enabled && s.goneBy [p] f.follower) } ∧
    { s.amendEnabled p enabled with followers := s.followers, racks := s.racks, fences := s.fences, link := s.link } = s := by
  cases h : s.closes p enabled with
  | true =>
    rw [State.amendEnabled_of_closes _ _ h]
    simp only [Bool.true_and]
    exact ⟨State.leaveRunning_follower .disabled, State.leaveRunning_fences .disabled, State.leaveRunning_frame .disabled⟩
  | false =>
    have frame := State.amendEnabled_of_stays _ _ h
    generalize s.amendEnabled p enabled = t at frame ⊢
    simp only [Bool.false_and, Bool.false_eq_true, if_false, Bool.not_false, List.filter_true]
    rw [← frame]
    exact ⟨fun _ => rfl, rfl, rfl⟩

end Blocks

/-! ## The request -/

section Request

variable {s : State} {b : Byte} {presence : BitVec 24} {o : RackOperands}

/-- AMEND-RACK out of range changes nothing (R161, R176). -/
theorem State.amendRack_of_range (hr : s.link.ready = true) (h : 11 < b.toNat ∨ rackOutOfRange presence.toNat o = true) :
    s.amendRack b presence o = s.answer .range [] := by
  refine (s.request_of_ready _ _ hr).trans ?_
  rcases h with h | h
  · rw [rackOf_eq_none h]; rfl
  · cases rackOf b with
    | none => rfl
    | some p => exact if_pos h

/-- AMEND-RACK in range: the parameters, then the drift parameters, then the enabled field. -/
theorem State.amendRack_of_named {p : RackId} (hr : s.link.ready = true) (hp : p.val = b.toNat)
    (h : rackOutOfRange presence.toNat o = false) : s.amendRack b presence o =
      ((((s.setRack p ((s.rack p).amend presence.toNat o)).amendDrift p presence.toNat o).amendEnabled p
        (marked presence.toNat 0 o.enabled >>= bitOf)).answer .done []) := by
  refine (s.request_of_ready _ _ hr).trans ?_
  rw [rackOf_eq_some hp.symm]
  exact if_neg (by simp [h])

end Request

theorem policyOf_eq_none {b : Byte} (h : 1 < b.toNat) : policyOf b = none := by
  have ne (v : Byte) (hv : v.toNat ≤ 1) : b ≠ v := fun e => by subst e; omega
  simp [policyOf, ne]

theorem policyOf_eq_some {b : Byte} (h : b.toNat ≤ 1) : policyOf b = some (if b = 0x00 then .widen else .refuse) := by
  unfold policyOf
  by_cases h0 : b = 0x00
  · rw [if_pos h0, if_pos h0]
  · have h1 : b = 0x01 := by
      have : b.toNat ≠ 0 := fun e => h0 (BitVec.eq_of_toNat_eq e)
      exact BitVec.eq_of_toNat_eq (by show b.toNat = 1; omega)
    rw [if_neg h0, if_pos h1, if_neg h0]

theorem bitOf_eq_none {b : Byte} (h : 1 < b.toNat) : bitOf b = none := by
  have ne (v : Byte) (hv : v.toNat ≤ 1) : b ≠ v := fun e => by subst e; omega
  simp [bitOf, ne]

/-- The enabled field leaves the parameters and the counters of a port. -/
theorem Port.enabledBy_parameters (q : Port) (enabled : Option Bool) :
    let q' := q.enabledBy enabled
    q'.replyWindow = q.replyWindow ∧ q'.asymmetry = q.asymmetry ∧ q'.baseError = q.baseError ∧ q'.delayCeiling = q.delayCeiling ∧
    q'.budgetReload = q.budgetReload ∧ q'.budget = q.budget ∧ q'.sequence = q.sequence ∧ q'.unsolicited = q.unsolicited ∧
    q'.degraded = q.degraded := by
  unfold Port.enabledBy
  split
  · exact ⟨rfl, rfl, rfl, rfl, rfl, rfl, rfl, rfl, rfl⟩
  · split <;> exact ⟨rfl, rfl, rfl, rfl, rfl, rfl, rfl, rfl, rfl⟩
  · split <;> exact ⟨rfl, rfl, rfl, rfl, rfl, rfl, rfl, rfl, rfl⟩

/-- What the enabled field does to state, activity and exchange (R76, R77). -/
theorem Port.enabledBy_cases (q : Port) (enabled : Option Bool) :
    (enabled = none ∨ enabled = some true ∧ q.state = .running → q.enabledBy enabled = q) ∧
    (enabled = some true → q.state ≠ .running → (q.enabledBy enabled).state = .running ∧
      (q.enabledBy enabled).activity = .idle ∧ (q.enabledBy enabled).pendingAnnounce = true) ∧
    (enabled = some false → (q.enabledBy enabled).state = .disabled) ∧
    (enabled = some false → q.state = .running → (q.enabledBy enabled).activity = .idle ∧ (q.enabledBy enabled).exchange = none ∧
      (q.enabledBy enabled).transmitting = none ∧ (q.enabledBy enabled).pendingAnnounce = false ∧
      (q.enabledBy enabled).quietEnd = none) := by
  unfold Port.enabledBy
  refine ⟨?_, ?_, ?_, ?_⟩
  · rintro (rfl | ⟨rfl, h⟩)
    · rfl
    · exact if_pos h
  · rintro rfl h
    rw [if_neg h]
    exact ⟨rfl, rfl, rfl⟩
  · rintro rfl
    cases h : q.state
    case disabled => exact h
    all_goals rfl
  · rintro rfl h
    rw [h]
    exact ⟨rfl, rfl, rfl, rfl, rfl⟩

/-- The three rows of AMEND-RACK are one request, whose enabled field is marked or not (R76, R174). -/
theorem exec_amendRack {s : State} {b : Byte} {presence : BitVec 24} {o : RackOperands} {c : Instr} {enabled : Option Bool}
    (hc : c = .portEnable b presence o ∧ enabled = some true ∨ c = .portDisable b presence o ∧ enabled = some false ∨
      c = .amendRackParameters b presence o ∧ enabled = none ∧ presence.getLsbD 0 = false) :
    ∃ (marks : BitVec 24) (e : Byte), exec c s = .next (s.amendRack b marks { o with enabled := e }) ∧
      (∀ k, 1 ≤ k → marks.toNat.testBit k = presence.getLsbD k) ∧ (marked marks.toNat 0 e >>= bitOf) = enabled ∧
      (marks.toNat.testBit 0 && (bitOf e).isNone) = false := by
  have bit (k : Nat) (hk : 1 ≤ k) : (presence ||| 1#24).toNat.testBit k = presence.getLsbD k := by
    have high : (1#24).getLsbD k = false := by
      rw [BitVec.getLsbD_one]
      simp [Nat.ne_of_gt hk]
    rw [BitVec.testBit_toNat, BitVec.getLsbD_or, high, Bool.or_false]
  have zero : (presence ||| 1#24).toNat.testBit 0 = true := by
    rw [BitVec.testBit_toNat, BitVec.getLsbD_or, BitVec.getLsbD_one]
    simp
  rcases hc with ⟨rfl, rfl⟩ | ⟨rfl, rfl⟩ | ⟨rfl, rfl, h0⟩
  · exact ⟨_, 0x01, rfl, bit, by rw [marked, if_pos zero]; rfl, by rw [zero]; rfl⟩
  · exact ⟨_, 0x00, rfl, bit, by rw [marked, if_pos zero]; rfl, by rw [zero]; rfl⟩
  · have none : presence.toNat.testBit 0 = false := by rw [BitVec.testBit_toNat, h0]
    exact ⟨presence, o.enabled, rfl, fun k _ => BitVec.testBit_toNat _, by rw [marked, none]; rfl, by rw [none]; rfl⟩

/-- An AMEND-RACK on a rack: the rack, the records and fences, and all that stays. -/
theorem State.amendedRack (s : State) (p : RackId) (presence : Nat) (o : RackOperands) (enabled : Option Bool) :
    let t := ((s.setRack p ((s.rack p).amend presence o)).amendDrift p presence o).amendEnabled p enabled
    t.rack p = { (s.rack p).amend presence o with
      port := ((s.port p).amend presence o).enabledBy enabled, drift := (s.rack p).drift.redrifted presence o } ∧
    (∀ k, k ≠ p → t.rack k = s.rack k) ∧
    (∀ i, t.follower i = if s.closes p enabled && s.goneBy [p] i then (s.follower i).retired else s.follower i) ∧
    t.fences = { s.fences with list := s.fences.list.filter fun f => !(s.closes p enabled && s.goneBy [p] f.follower) } ∧
    { t with followers := s.followers, racks := s.racks, fences := s.fences, link := s.link } = s := by
  let w := s.setRack p ((s.rack p).amend presence o)
  have drift := w.rack_amendDrift p presence o
  have followers : (w.amendDrift p presence o).followers = s.followers := State.amendDrift_followers _ _ _
  have fences : (w.amendDrift p presence o).fences = s.fences := State.amendDrift_fences _ _ _ _
  have frame := w.amendDrift_frame p presence o
  have written : w.rack p = (s.rack p).amend presence o := by rw [State.rack_setRack, if_pos rfl]
  have others (k : RackId) (h : k ≠ p) : w.rack k = s.rack k := by rw [State.rack_setRack, if_neg h.symm]
  show let t := (w.amendDrift p presence o).amendEnabled p enabled; _
  generalize w.amendDrift p presence o = u at *
  have rack : u.rack p = { (s.rack p).amend presence o with drift := (s.rack p).drift.redrifted presence o } := by
    rw [drift, if_pos rfl, written]
    rfl
  have port : u.port p = (s.port p).amend presence o := congrArg Rack.port rack
  have otherRack (k : RackId) (h : k ≠ p) : u.rack k = s.rack k := by rw [drift, if_neg h.symm, others k h]
  have follower (i : FollowerId) : u.follower i = s.follower i := by simp only [State.follower, followers]
  have addressee (k : RackId) : u.addressee k = s.addressee k := by
    by_cases e : k = p
    · subst e
      rw [State.addressee, port]
      rfl
    · rw [State.addressee, State.port, otherRack k e]
      rfl
  have same : State.Ends [] s u := .of_stands addressee fun i => by rw [follower]; exact ⟨rfl, .rfl, .rfl⟩
  obtain ⟨records, tfences, tframe⟩ := u.amendEnabled_records_fences p enabled
  have racks := u.amendEnabled_rack p enabled
  have tport := u.port_amendEnabled p enabled
  have closes : u.closes p enabled = s.closes p enabled := by rw [State.closes, port]; rfl
  intro t
  refine ⟨?_, fun k hk => ((racks k).2 hk.symm).trans (otherRack k hk), fun i => ?_, ?_, ?_⟩
  · rw [← port, ← tport]
    exact State.rack_eq_of_port (r := { (s.rack p).amend presence o with port := _, drift := _ })
      (congrArg (fun r : Rack => { r with port := ((u.amendEnabled p enabled).port p) }) ((racks p).1.trans rack)) rfl
  · exact (records i).trans (by rw [closes, same.goneBy, follower])
  · exact tfences.trans (by simp only [closes, same.goneBy, fences])
  · let restore (v : State) : State := { v with followers := s.followers, racks := s.racks, fences := s.fences, link := s.link }
    have written := congrArg restore frame
    exact (congrArg restore tframe).trans written

/-- Settles O43, from what the request makes of the rack, the records and the fences (`State.amendedRack`). -/
theorem amendRackWritesItsMarkedFields : Obligations.AmendRackWritesItsMarkedFields := by
  refine ⟨fun s b presence o hr h0 he => ?_, fun s b presence o c enabled hr hc => ?_⟩
  · refine congrArg Host.Outcome.next (State.amendRack_of_range hr (.inr ?_))
    rw [rackOutOfRange, BitVec.testBit_toNat, h0, bitOf_eq_none he]
    rfl
  · obtain ⟨marks, e, run, bit, on, known⟩ := exec_amendRack (s := s) hc
    intro has drifts
    have range : rackOutOfRange marks.toNat { o with enabled := e } = (has 10 && (policyOf o.driftPolicy).isNone) := by
      rw [rackOutOfRange, known, Bool.false_or, bit 10 (by decide)]
    refine ⟨fun h => run.trans (congrArg _ (State.amendRack_of_range hr (h.imp_right fun h => ?_))), fun p hp hpolicy => ?_⟩
    · rw [range, h.1, policyOf_eq_none h.2]
      rfl
    · have within : rackOutOfRange marks.toNat { o with enabled := e } = false := by
        rw [range]
        cases h : has 10 with
        | false => rfl
        | true => rw [policyOf_eq_some (hpolicy h)]; rfl
      rw [State.amendRack_of_named hr hp within, on] at run
      obtain ⟨rack, others, records, fences, frame⟩ := s.amendedRack p marks.toNat { o with enabled := e } enabled
      generalize State.amendEnabled _ p enabled = t at *
      have param {α : Type} (k : Nat) (hk : 1 ≤ k) (v old : α) : newOr marks.toNat k v old = if has k then v else old := by
        rw [newOr, bit k hk]
      have goneIs (i : FollowerId) : (s.closes p enabled && s.goneBy [p] i) = (enabled == some false && (s.port p).state == .running &&
          (s.follower i).state == .retiring && (s.port p).exchange.any fun x => x.follower == i) := by
        simp only [State.closes, State.goneBy, State.addressedOn, List.any_cons, List.any_nil, Bool.or_false, Bool.and_assoc]
      refine ⟨_, run, rfl, ?_, ?_, others, ⟨?_, ?_⟩, frame⟩
      · intro r q t'
        have written : t'.port = (q.amend marks.toNat { o with enabled := e }).enabledBy enabled := congrArg Rack.port rack
        have kept := (q.amend marks.toNat { o with enabled := e }).enabledBy_parameters enabled
        have acts := (q.amend marks.toNat { o with enabled := e }).enabledBy_cases enabled
        rw [← written] at kept acts
        obtain ⟨replyWindow, asymmetry, baseError, delayCeiling, budgetReload, budget, sequence, unsolicited, degraded⟩ := kept
        obtain ⟨stays, opens, closes, clears⟩ := acts
        have policy : (if has 10 then (policyOf o.driftPolicy).getD r.driftPolicy else r.driftPolicy) =
            if has 10 then (if o.driftPolicy = 0x00 then .widen else .refuse) else r.driftPolicy := by
          cases h : has 10 with
          | false => rfl
          | true => rw [policyOf_eq_some (hpolicy h)]; rfl
        refine ⟨(congrArg Rack.trustOffset rack).trans (param 6 (by decide) _ _),
          (congrArg Rack.faultLimit rack).trans (param 7 (by decide) _ _),
          (congrArg Rack.dateCeiling rack).trans (param 8 (by decide) _ _),
          (congrArg Rack.rackPenalty rack).trans ((param 9 (by decide) _ _).trans (by rw [clampNat_zero])),
          (congrArg Rack.driftPolicy rack).trans ((param 10 (by decide) _ _).trans policy),
          replyWindow.trans (param 1 (by decide) _ _),
          asymmetry.trans (param 2 (by decide) _ _),
          baseError.trans ((param 3 (by decide) _ _).trans (by rw [clampNat_zero])),
          delayCeiling.trans (param 4 (by decide) _ _),
          budgetReload.trans (param 5 (by decide) _ _),
          budget.trans (param 5 (by decide) _ _),
          sequence, unsolicited, degraded, fun h => ?_, opens, closes, clears⟩
        have same := stays h
        rw [same]
        exact ⟨rfl, rfl, rfl, rfl, rfl, rfl⟩
      · intro d d' excessRate excessOffset
        have written : d' = d.redrifted marks.toNat { o with enabled := e } := congrArg Rack.drift rack
        have carries : carriesDrift marks.toNat = drifts := by
          simp only [carriesDrift, List.any_cons, List.any_nil, Bool.or_false, ← Bool.or_assoc]
          simp only [bit 11 (by decide), bit 12 (by decide), bit 13 (by decide), bit 14 (by decide), bit 15 (by decide),
            bit 16 (by decide), bit 17 (by decide), bit 18 (by decide), bit 19 (by decide)]
          rfl
        rw [Drift.redrifted, carries] at written
        refine ⟨fun h => written.trans (if_neg (by simp [h])), fun h => ?_⟩
        rw [if_pos h] at written
        obtain ⟨minMembers, leanRate, fExcessRate, leanOffset, fExcessOffset, members, meanRate, widest, state⟩ := d.taken_kept
        obtain ⟨⟨pm, pp⟩, cm, cp⟩ := d.taken_reloads
        have none := d.taken_of_none
        generalize d.persistenceTaken.calmTaken = f at *
        have of (k : Nat) (hk : 1 ≤ k) (x : Nat) {v w : Nat} (hw : v = w) : newOr marks.toNat k x v = if has k then x else w := by
          rw [param k hk, hw]
        have excessRate' : newOr marks.toNat 13 (clampNat 16 1600000 o.excessRate.toNat) f.excessRate = excessRate :=
          of 13 (by decide) _ fExcessRate
        have excessOffset' : newOr marks.toNat 15 (clampNat 100 100000000 o.excessOffset.toNat) f.excessOffset = excessOffset :=
          of 15 (by decide) _ fExcessOffset
        rw [written]
        refine ⟨of 11 (by decide) _ minMembers, excessRate', excessOffset',
          congrArg₂ min (of 12 (by decide) _ leanRate) excessRate', congrArg₂ min (of 14 (by decide) _ leanOffset) excessOffset',
          of 16 (by decide) _ pm, of 17 (by decide) _ pp, of 18 (by decide) _ cm, of 19 (by decide) _ cp,
          rfl, rfl, rfl, rfl, members, meanRate, widest, state, fun h h' => ?_⟩
        rw [none h h']
        exact ⟨rfl, rfl⟩
      · intro i
        refine (records i).trans ?_
        rw [goneIs i]
        exact if_congr Iff.rfl (Follower.retired_eq _) rfl
      · exact fences.trans (congrArg (fun g : FollowerId → Bool => { s.fences with list := s.fences.list.filter fun f => !g f.follower })
          (funext goneIs))

end Sys2Proof.Machine

/-! PROOFS. AMEND-ROW (R12, R13, R136). -/

namespace Sys2Proof.Machine

/-- The row in Holdover or Free, whose Ur an amended wander rebases (R13). -/
def Row.rebases (r : Row) (presence : Nat) : Bool := presence.testBit 4 && (r.state == .holdover || r.state == .free)

/-- What a marked H writes (R13). -/
theorem Row.amendWander_fields (r : Row) (presence : Nat) (o : RowOperands) : r.amendWander presence o = { r with
    wander := if presence.testBit 4 then min o.wander.toNat 160000 else r.wander
    entryUr := if r.rebases presence then r.currentUr else r.entryUr
    entryTime := if r.rebases presence then r.whole else r.entryTime } := by
  unfold Row.amendWander Row.rebases
  split
  case isFalse h => simp [h]
  case isTrue h =>
    rw [clampNat_zero]
    cases r.state <;> simp [h]

/-- The row state that a Ur limit now below Ur leaves (R13). -/
theorem Row.limitState_eq (r : Row) (presence : Nat) : r.limitState presence =
    if presence.testBit 2 ∧ r.urLimit < r.currentUr ∧ r.state = .locked then .acquiring
    else if presence.testBit 2 ∧ r.urLimit < r.currentUr ∧ r.state = .holdover then .free else r.state := by
  unfold Row.limitState
  by_cases h : presence.testBit 2 ∧ r.urLimit < r.currentUr
  · rw [if_pos h]
    cases hs : r.state <;> simp [h]
  · rw [if_neg h, if_neg fun c => h ⟨c.1, c.2.1⟩, if_neg fun c => h ⟨c.1, c.2.1⟩]

/-- The row record that the request leaves, field by field. -/
theorem Row.amended_eq (r : Row) (presence : Nat) (o : RowOperands) :
    let urLimit := newOr presence 2 (clampNat 100 100000000 o.urLimit.toNat) r.urLimit
    let stepLimit := newOr presence 0 (clampNat 1000 1000000 o.stepLimit.toNat) r.stepLimit
    r.amended presence o = { r with
      stepLimit := stepLimit
      sanityLimit := max (newOr presence 1 (clampNat 1000 100000000 o.sanityLimit.toNat) r.sanityLimit) stepLimit
      urLimit := urLimit
      gain := newOr presence 3 (clampNat 2 10 o.gain.toNat) r.gain
      wander := if presence.testBit 4 then min o.wander.toNat 160000 else r.wander
      entryUr := if r.rebases presence then r.currentUr else r.entryUr
      entryTime := if r.rebases presence then r.whole else r.entryTime
      state := if presence.testBit 2 ∧ urLimit < r.currentUr ∧ r.state = .locked then .acquiring
        else if presence.testBit 2 ∧ urLimit < r.currentUr ∧ r.state = .holdover then .free else r.state } := by
  intro urLimit stepLimit
  have ur : ((r.amendWander presence o).amendLimits presence o).currentUr = r.currentUr := r.currentUr_amendWander presence o
  have limit : ((r.amendWander presence o).amendLimits presence o).urLimit = urLimit := by
    rw [Row.amendWander_fields]
    rfl
  have state : ((r.amendWander presence o).amendLimits presence o).state = r.state := r.amendWander_state presence o
  unfold Row.amended
  dsimp only
  rw [Row.limitState_eq, ur, limit, state, Row.amendWander_fields]
  rfl

/-- The Fence List that the request leaves: a new wait maximum acts at once on every fence (R136). -/
theorem State.amendFences_list (s : State) (presence : Nat) (o : RowOperands) :
    let waitMax := newOr presence 6 (clampNat 1 300 o.waitMax.toNat) s.fences.waitMax
    let swept := ({ s with fences := { s.fences with waitMax := waitMax } } : State).sweptFences
    let t := s.amendFences presence o
    t.fences = { s.fences with
      horizon := newOr presence 5 (clampNat 1 60 o.horizon.toNat) s.fences.horizon
      waitMax := waitMax
      list := if presence.testBit 6 then swept else s.fences.list
      dropped := if presence.testBit 6 then s.fences.dropped + BitVec.ofNat 16 (s.fences.list.length - swept.length)
        else s.fences.dropped } ∧
    (presence.testBit 6 = true → swept.length < s.fences.list.length → t.link.events.fenceDrop = true) ∧
    { t with fences := s.fences, link := s.link } = s := by
  intro waitMax swept
  unfold State.amendFences
  dsimp only
  split
  · rename_i h
    unfold State.sweepFences
    refine ⟨rfl, fun _ hs => ?_, rfl⟩
    have dropped : 0 < s.fences.list.length - swept.length := by omega
    have raised (u : State) : (u.raiseIf true .fenceDrop).link.events.fenceDrop = true := rfl
    have decided := decide_eq_true dropped
    exact (congrArg (fun b => (State.raiseIf _ b .fenceDrop).link.events.fenceDrop) decided).trans (raised _)
  · rename_i h
    exact ⟨rfl, fun h' => absurd h' h, rfl⟩

/-- The list that an amended wait maximum leaves depends on row time, the wait maximum and the fences alone. -/
theorem State.sweptFences_eq (s : State) : s.sweptFences = s.fences.list.filterMap fun f =>
    if decide (4294967296 * (f.lastChange + 1000000000 * s.fences.waitMax) < s.row.fine) then
      (if f.state = .waiting then some { f with state := .voidedExpired, lastChange := s.row.whole } else none)
    else some f := rfl

/-- The Fence List and the rest that the request leaves, against the state before it: a row amended keeps row time. -/
theorem State.amendRow_fences (s : State) (presence : Nat) (o : RowOperands) :
    let waitMax := newOr presence 6 (clampNat 1 300 o.waitMax.toNat) s.fences.waitMax
    let swept := ({ s with fences := { s.fences with waitMax := waitMax } } : State).sweptFences
    let t := s.amendRow presence o
    t.fences = { s.fences with
      horizon := newOr presence 5 (clampNat 1 60 o.horizon.toNat) s.fences.horizon
      waitMax := waitMax
      list := if presence.testBit 6 then swept else s.fences.list
      dropped := if presence.testBit 6 then s.fences.dropped + BitVec.ofNat 16 (s.fences.list.length - swept.length)
        else s.fences.dropped } ∧
    (presence.testBit 6 = true → swept.length < s.fences.list.length → t.link.events.fenceDrop = true) ∧
    { t with row := s.row, fences := s.fences, link := s.link } = s := by
  intro waitMax swept
  let u := ({ s with row := (s.row.amendWander presence o).amendLimits presence o } : State).enterRowState
    (((s.row.amendWander presence o).amendLimits presence o).limitState presence)
  have row : u.row = s.row.amended presence o := rfl
  have same : ({ u with fences := { u.fences with waitMax := waitMax } } : State).sweptFences = swept := by
    rw [State.sweptFences_eq, show swept = _ from State.sweptFences_eq _]
    simp only [row, Row.amended_fine, Row.amended_whole]
    rfl
  obtain ⟨fences, dropped, frame⟩ := u.amendFences_list presence o
  refine ⟨fences.trans ?_, ?_, ?_⟩
  · rw [← same]
    rfl
  · rw [← same]
    exact dropped
  · exact congrArg (fun v : State => { v with row := s.row, link := s.link }) frame

/-- Settles O44, from the row record and the Fence List that the request leaves. -/
theorem amendRowActsAtOnce : Obligations.AmendRowActsAtOnce := by
  intro s presence o hr has row stepLimit urLimit rebased waitMax late swept
  have param {α : Type} (k : Nat) (v old : α) : newOr presence.toNat k v old = if has k then v else old := by
    rw [newOr, BitVec.testBit_toNat]
  have run : exec (.amendRow presence o) s = .next ((s.amendRow presence.toNat o).answer .done []) :=
    congrArg Host.Outcome.next (s.request_of_ready _ _ hr)
  have trow := s.amendRow_row presence.toNat o
  have reported := (Effect.amendRow presence o : Effect s _ _).rowState_reported
  obtain ⟨fences, dropped, frame⟩ := s.amendRow_fences presence.toNat o
  have fine := (congrArg Row.fine trow).trans (s.row.amended_fine presence.toNat o)
  generalize s.amendRow presence.toNat o = t at *
  have newWait : newOr presence.toNat 6 (clampNat 1 300 o.waitMax.toNat) s.fences.waitMax = waitMax := param 6 _ _
  rw [State.sweptFences_eq] at fences dropped
  simp only [newWait, BitVec.testBit_toNat] at fences dropped
  refine ⟨_, run, rfl, ?_, ?_, reported nofun, ?_, dropped, ?_⟩
  · refine trow.trans ((s.row.amended_eq presence.toNat o).trans ?_)
    simp only [param, Row.rebases, BitVec.testBit_toNat]
    rfl
  · exact (congrArg Row.currentUr trow).trans (s.row.currentUr_amended presence.toNat o)
  · refine fences.trans ?_
    simp only [param]
    rfl
  · exact frame

end Sys2Proof.Machine

/-! PROOFS. The Management Link's own requests and the warning lines, refused requests, and the start-up interval (R159 to R168). -/

namespace Sys2Proof.Machine

variable {s t : State} {c : Instr}

/-! ## Refusals and the start-up interval (R160 to R162) -/

/-- A request that a read or a refusal answers leaves all but the response and the link's place in its frame. -/
theorem State.answer_frame (o : Outcome) (l : List Byte) : { s.answer o l with
    link := { (s.answer o l).link with response := s.link.response, frame := s.link.frame } } = s := rfl

/-- Settles O47: what is answered without DONE or PENDING, a read included, writes the response alone; every other effect of a request answers one of the two (R161, R162). -/
theorem refusedAndReadRequestsChangeNothing : Obligations.RefusedAndReadRequestsChangeNothing := by
  intro c bytes s t hc h hq
  have effect := exec_effect h
  cases effect
  case answered => exact State.answer_frame _ _
  case stays => rfl
  case amendRack ha => cases c <;> simp_all [State.answer, Outcome.code, Instr.amendsRack]
  all_goals try (simp only [requestBytes, reduceCtorEq] at hc; done)
  all_goals simp [State.answer, State.endFrame, Outcome.code] at hq

/-- In the start-up interval a known request is answered NOT-READY (R160, R161). -/
theorem State.request_of_unready (hr : s.link.ready = false) (n : Nat) (f : State → State) : s.request n f =
    { s with link := { s.link with response := 0x09 :: List.replicate n 0x00, frame := .taken 0 } } :=
  if_neg (by simp [hr])

/-- Every request but IDENTIFY and an unknown code waits for the end of the start-up interval (R160). -/
theorem exec_eq_request {bytes : List Byte} (hc : requestBytes c = some bytes) (identify : c ≠ .identify)
    (unknown : ∀ code, c ≠ .unknownRequest code) (abort : ∀ clocked, c ≠ .managementFrameAbort clocked) :
    ∃ (n : Nat) (f : State → State), ∀ s, exec c s = .next (s.request n f) := by
  cases c
  all_goals try (simp only [requestBytes, reduceCtorEq] at hc; done)
  case identify => exact absurd rfl identify
  case unknownRequest code => exact absurd rfl (unknown code)
  case managementFrameAbort clocked => exact absurd rfl (abort clocked)
  all_goals exact ⟨_, _, fun _ => rfl⟩

/-- Settles O48: a known request other than IDENTIFY is refused before it is looked at. -/
theorem startUpIntervalAnswersNotReady : Obligations.StartUpIntervalAnswersNotReady := by
  intro c bytes s hr hc identify unknown abort
  obtain ⟨n, f, run⟩ := exec_eq_request hc identify unknown abort
  exact ⟨n, (run s).trans (congrArg Host.Outcome.next (State.request_of_unready hr n f))⟩

/-! ## Event flags and the attention line (R163 to R165) -/

/-- The flag word holds the nine flags, bit 0 first. -/
theorem Events.getLsbD_word (e : Events) (k : Nat) : e.word.getLsbD k = e.flagBits.getD k false := by
  have wide (h : ¬ k < 9) : e.flagBits.getD k false = false := List.getD_eq_default _ _ (by simp [Events.flagBits]; omega)
  rw [Events.word, BitVec.getLsbD_setWidth, BitVec.getLsbD_ofBoolListLE]
  by_cases h : k < 9
  · simp [h]
  · rw [wide h, Bool.and_false]

theorem exists_lt_nine {P : Nat → Prop} : (∃ k, k < 9 ∧ P k) ↔ P 0 ∨ P 1 ∨ P 2 ∨ P 3 ∨ P 4 ∨ P 5 ∨ P 6 ∨ P 7 ∨ P 8 := by
  refine ⟨fun ⟨k, hk, h⟩ => ?_, fun h => ?_⟩
  · interval_cases k <;> simp [h]
  · rcases h with h | h | h | h | h | h | h | h | h <;> exact ⟨_, by decide, h⟩

/-- MATN is asserted while a flag stands whose mask bit is 0 (R165). -/
theorem State.attention_iff (s : State) :
    s.attention = true ↔ ∃ k, k < 9 ∧ s.link.events.flagBits.getD k false = true ∧ s.link.mask.getLsbD k = false := by
  have bit (k : Nat) (h : k < 9) : (s.link.events.word &&& ~~~s.link.mask).getLsbD k = true ↔
      s.link.events.flagBits.getD k false = true ∧ s.link.mask.getLsbD k = false := by
    rw [BitVec.getLsbD_and, BitVec.getLsbD_not, Events.getLsbD_word, Bool.and_eq_true_iff]
    simp only [h, decide_true, Bool.true_and, Bool.not_eq_true']
  rw [State.attention, bne_iff_ne]
  constructor
  · intro nonzero
    by_contra none
    refine nonzero (BitVec.eq_of_getLsbD_eq fun k hk => ?_)
    refine (Bool.eq_false_iff.mpr ?_).trans BitVec.getLsbD_zero.symm
    exact fun set => none ⟨k, hk, (bit k hk).mp set⟩
  · rintro ⟨k, hk, set⟩ zero
    have := (bit k hk).mpr set
    rw [zero] at this
    simp at this

/-! ## Warning lines (R166, R167) -/

theorem zero_or_one {b : Byte} (h : b.toNat ≤ 1) : b = 0x00 ∨ b = 0x01 :=
  (Nat.le_one_iff_eq_zero_or_eq_one.mp h).imp BitVec.eq_of_toNat_eq BitVec.eq_of_toNat_eq

theorem bitOf_eq_some {b : Byte} (h : b.toNat ≤ 1) : bitOf b = some (b == 0x01) := by
  rcases zero_or_one h with rfl | rfl <;> rfl

theorem activeHigh_eq {b : Byte} (h : b.toNat ≤ 1) : (!(b == 0x01)) = (b == 0x00) := by
  rcases zero_or_one h with rfl | rfl <;> rfl

theorem lineOf_eq_none {b : Byte} (h : 3 < b.toNat) : lineOf b = none := dif_neg (by omega)

theorem lineOf_eq_some {b : Byte} {w : Fin 4} (h : b.toNat = w.val) : lineOf b = some w :=
  (dif_pos (by omega)).trans (congrArg some (Fin.ext h))

theorem functionOf_eq_none {b : Byte} (h : 8 < b.toNat) : functionOf b = none :=
  List.getElem?_eq_none (by simp; omega)

/-- A line is high exactly where its condition agrees with its polarity (R166). -/
theorem State.lineHigh_iff (s : State) (w : Fin 4) :
    s.lineHigh w = true ↔ (s.lineAsserted s.lines[w] = true ↔ s.lines[w].activeHigh = true) := by
  rw [State.lineHigh, beq_iff_eq, Bool.eq_iff_iff]

theorem Drift.unacknowledged_iff (d : Drift) :
    d.unacknowledged = true ↔ (d.warning = .watch ∨ d.warning = .drift) ∧ d.acknowledged = false := by
  unfold Drift.unacknowledged
  cases d.warning <;> simp

theorem allRacks_any {q : RackId → Bool} : allRacks.any q = true ↔ ∃ p, q p = true := by
  simp [List.any_eq_true, mem_allRacks]

/-- Settles O45, request by request, and the lines function by function. -/
theorem linkAndLineRequestsAct : Obligations.LinkAndLineRequestsAct := by
  intro s
  refine ⟨fun hr => ?_, fun mask hr => ?_, ?_, fun line function polarity rack level hr => ⟨fun h => ?_, fun w p g hw hp hg hpol hlev => ?_⟩,
    ?_, rfl, fun code => rfl, fun clocked => rfl⟩
  · exact congrArg Host.Outcome.next (s.request_of_ready _ _ hr)
  · exact congrArg Host.Outcome.next (s.request_of_ready _ _ hr)
  · intro e open'
    rw [State.attention_iff, exists_lt_nine]
    simp only [Events.flagBits, List.getD_cons_zero, List.getD_cons_succ, bne_iff_ne]
    exact Iff.rfl
  · refine congrArg Host.Outcome.next ((s.request_of_ready _ _ hr).trans ?_)
    split
    · rename_i hline hfunction hpolarity hrack hlevel
      rcases h with h | h | h | h | h
      · rw [lineOf_eq_none h] at hline; cases hline
      · rw [functionOf_eq_none h] at hfunction; cases hfunction
      · rw [bitOf_eq_none h] at hpolarity; cases hpolarity
      · rw [rackOf_eq_none h] at hrack; cases hrack
      · rw [bitOf_eq_none h] at hlevel; cases hlevel
    · rfl
  · have written : exec (.setLine line function polarity rack level) s =
        .next (({ s with lines := s.lines.set w ⟨g, polarity == 0x00, p, level == 0x01⟩ } : State).answer .done []) := by
      refine congrArg Host.Outcome.next ((s.request_of_ready _ _ hr).trans ?_)
      rw [lineOf_eq_some hw, show functionOf function = some g from hg, bitOf_eq_some hpol, rackOf_eq_some hp, bitOf_eq_some hlev]
      rw [← activeHigh_eq hpol]
    refine ⟨_, written, rfl, fun hg => ?_⟩
    have line : (s.lines.set w ⟨g, polarity == 0x00, p, level == 0x01⟩)[w] = ⟨g, polarity == 0x00, p, level == 0x01⟩ :=
      Vector.getElem_set_self w.isLt
    have high (v : Line) : (({ s with lines := s.lines.set w v } : State).answer .done []).lineHigh w =
        (({ s with lines := s.lines.set w v } : State).lineAsserted (s.lines.set w v)[w] == (s.lines.set w v)[w].activeHigh) := rfl
    rw [high, line, hg]
    rfl
  · intro w l warned asserted
    refine (s.lineHigh_iff w).trans (iff_congr ?_ Iff.rfl)
    have stands (p : RackId) : (s.rack p).drift.unacknowledged = true ↔ warned p := Drift.unacknowledged_iff _
    show s.lineAsserted l = true ↔ asserted
    unfold State.lineAsserted
    cases h : l.function
    all_goals simp only [asserted, h]
    case anyWarning => simp only [allRacks_any, stands]
    case anyDrift => simp only [allRacks_any, Bool.and_eq_true_iff, beq_iff_eq, Bool.not_eq_true']
    case oneRack => exact stands _
    case notLocked => cases s.row.state <;> simp
    case holdover => simp
    case fenceBacklog => simp
    case portHalted => simp only [allRacks_any, beq_iff_eq]

end Sys2Proof.Machine

/-! PROOFS. The read requests (R33, R49, R73, R97, R147, R158, R169, R174, R175). -/

namespace Sys2Proof.Machine

/-! ## Bytes of a number (R169) -/

theorem beBytes_get {n k : Nat} (v : Nat) (h : k < n) : (beBytes n v)[k]? = some (BitVec.ofNat 8 (v / 256 ^ (n - 1 - k))) := by
  induction n generalizing k with
  | zero => omega
  | succ n ih =>
    cases k with
    | zero => rfl
    | succ k =>
      refine (ih (by omega)).trans ?_
      rw [show n + 1 - 1 - (k + 1) = n - 1 - k by omega]

theorem beInt_eq (n : Nat) (z : Int) : beInt n z = beBytes n (z % 256 ^ n).toNat := by
  rw [beInt, Nat.cast_pow]
  rfl

/-- A small number in one byte is that byte. -/
theorem NotifyFlags.byte_eq (n : NotifyFlags) :
    beBytes 1 (n.onTrusted.toNat + 2 * n.onStale.toNat + 4 * n.onOrder.toNat) = [n.byte] := by
  obtain ⟨a, b, c⟩ := n
  cases a <;> cases b <;> cases c <;> rfl

theorem Follower.bytes_length (f : Follower) : f.bytes.length = 99 := by
  unfold Follower.bytes outcomeBytes Estimate.bytes
  cases f.pendingOrder <;> cases f.lastOutcome <;> simp

/-- The last fault of a record in one byte (R175). -/
theorem FaultKind.code_elim (o : Option FaultKind) : o.elim 0x00 FaultKind.code =
    match o with
    | none => 0x00
    | some .check => 0x01
    | some .stray => 0x02
    | some .overrun => 0x03
    | some .causality => 0x04
    | some .delay => 0x05
    | some .timeout => 0x06
    | some .echo => 0x07 := by
  rcases o with _ | k
  · rfl
  · cases k <;> rfl

theorem Rack.bytes_length (r : Rack) : r.port.fieldBytes.length = 9 ∧ r.parameterBytes.length = 51 ∧ r.drift.fieldBytes.length = 18 := by
  refine ⟨?_, ?_, ?_⟩
  · unfold Port.fieldBytes
    cases r.port.exchange <;> simp
  · unfold Rack.parameterBytes
    simp only [List.length_append, beBytes_length, beInt_length, List.length_singleton]
  · simp [Drift.fieldBytes]

theorem State.rowBytes_length (s : State) : s.rowBytes.length = 58 := by
  simp only [State.rowBytes, State.rowParameterBytes, List.length_append, beBytes_length, beInt_length, List.length_cons, List.length_nil]

theorem State.referenceBytes_length (s : State) (r : Reference) : (s.referenceBytes r).length = 45 := by
  simp only [State.referenceBytes, List.length_append, beBytes_length, beInt_length, List.length_cons, List.length_nil]

/-- The roles of a reference in one byte (R175). -/
theorem Selector.roles_eq (x : Selector) (r : Reference) :
    beBytes 1 ((if x.selected = r then 1 else 0) + (if x.backup = some r then 2 else 0) + (if x.inUse = some r then 4 else 0)) =
      [x.roles r] := by
  unfold Selector.roles
  split <;> split <;> split <;> rfl

/-- The number that names a reference (R174). -/
def referenceNumber : Reference → Nat
  | .hallA => 0
  | .hallB => 1
  | .neighbour => 2
  | .pulse => 3

theorem referenceOf_eq_some {b : Byte} {r : Reference} (h : b.toNat = referenceNumber r) : referenceOf b = some r := by
  have named (k : Byte) (hk : k.toNat = referenceNumber r) : b = k := BitVec.eq_of_toNat_eq (h.trans hk.symm)
  cases r with
  | hallA => rw [named 0x00 rfl]; rfl
  | hallB => rw [named 0x01 rfl]; rfl
  | neighbour => rw [named 0x02 rfl]; rfl
  | pulse => rw [named 0x03 rfl]; rfl

/-- Settles O46: each read answers the bytes of its record, which are those of R175 field by field. -/
theorem readsReturnTheirRecords : Obligations.ReadsReturnTheirRecords := by
  refine ⟨fun n v k => ⟨beBytes_length n v, beBytes_get v⟩, beInt_eq, fun s hr => ?_⟩
  intro yes orderCode
  refine ⟨?_, ?_, ?_, ?_, ?_⟩
  · intro b i hi f slot fields
    have bytes : f.bytes = fields := by
      unfold Follower.bytes Estimate.bytes
      simp only [fields, slot, yes, NotifyFlags.byte_eq, List.append_assoc, List.cons_append, List.nil_append]
      rw [FaultKind.code_elim]
      clear_value f
      cases f.pendingOrder <;> rcases f.lastOutcome with _ | ⟨_, _⟩ <;> rfl
    rw [← bytes]
    refine ⟨congrArg Host.Outcome.next ((s.request_of_ready _ _ hr).trans ?_), f.bytes_length⟩
    rw [show followerOf b = i from Fin.ext hi.symm]
  · intro b
    constructor
    · intro h
      refine congrArg Host.Outcome.next ((s.request_of_ready _ _ hr).trans ?_)
      rw [rackOf_eq_none h]
      rfl
    · intro p hp r q d portFields rackFields driftFields
      have port : q.fieldBytes = portFields := by
        unfold Port.fieldBytes
        simp only [portFields, yes, List.append_assoc, List.cons_append, List.nil_append]
        clear_value q
        cases q.exchange <;> rfl
      have parameters : r.parameterBytes = rackFields := by
        unfold Rack.parameterBytes
        simp only [rackFields, q]
        cases r.port.state <;> rfl
      have drift : d.fieldBytes = driftFields := by
        unfold Drift.fieldBytes
        simp only [driftFields, yes, List.append_assoc, List.cons_append, List.nil_append]
        rfl
      rw [← port, ← parameters, ← drift]
      refine ⟨congrArg Host.Outcome.next ((s.request_of_ready _ _ hr).trans ?_), r.bytes_length⟩
      rw [rackOf_eq_some hp.symm]
      rfl
  · intro row ur fields
    have bytes : s.rowBytes = fields := by
      unfold State.rowBytes State.rowParameterBytes
      simp only [fields, ur, yes, List.append_assoc, List.cons_append, List.nil_append]
      rfl
    rw [← bytes]
    exact ⟨congrArg Host.Outcome.next (s.request_of_ready _ _ hr), s.rowBytes_length⟩
  · intro b
    constructor
    · intro h
      refine congrArg Host.Outcome.next ((s.request_of_ready _ _ hr).trans ?_)
      rw [referenceOf_eq_none h]
      rfl
    · intro r h v fields
      have bytes : s.referenceBytes r = fields := by
        unfold State.referenceBytes
        simp only [fields, Selector.roles_eq, List.append_assoc, List.cons_append, List.nil_append]
        rfl
      rw [← bytes]
      refine ⟨congrArg Host.Outcome.next ((s.request_of_ready _ _ hr).trans ?_), s.referenceBytes_length r⟩
      rw [referenceOf_eq_some (r := r) h.symm]
  · intro b counts
    refine ⟨fun h => ?_, fun h hl => ?_, fun f h hf => ?_⟩
    all_goals refine congrArg Host.Outcome.next ((s.request_of_ready _ _ hr).trans ?_)
    · exact if_pos h
    · rw [if_neg (by omega), List.getElem?_eq_none hl]
      rfl
    · rw [if_neg (by omega), hf]
      simp only [Fence.bytes, State.fenceCountBytes, List.append_assoc, List.cons_append, List.nil_append]
      rfl

end Sys2Proof.Machine

/-! PROOFS. Replies and mark frames are read back field by field (R82, R87, R169 to R173). -/

namespace Sys2Proof.Machine

/-! ## The parts of a Reply -/

theorem parseAck_ackByte (a : Option (OrderKind × AckResult)) : parseAck (ackByte a) = some a := by
  rcases a with _ | ⟨k, result⟩
  · rfl
  · cases k <;> cases result <;> decide

/-- The flag byte of a Reply holds both flags. -/
theorem replyFlags_bits (holding restarted : Bool) :
    let flags : Byte := (if holding then 0x01 else 0x00) ||| (if restarted then 0x02 else 0x00)
    (flags &&& 0x01 != 0) = holding ∧ (flags &&& 0x02 != 0) = restarted := by
  cases holding <;> cases restarted <;> decide

/-- An ask whose instant fits its eight bytes. -/
def Ask.Fits : Ask → Prop
  | .date _ c => c < 2 ^ 64
  | .fence _ l => l < 2 ^ 64

theorem Ask.bytes_length (a : Ask) : a.bytes.length = 10 := by
  cases a <;> simp [Ask.bytes]

theorem asks_length (asks : List Ask) : (asks.flatMap Ask.bytes).length = 10 * asks.length := by
  induction asks with
  | nil => rfl
  | cons a asks ih => rw [List.flatMap_cons, List.length_append, ih, Ask.bytes_length, List.length_cons]; omega

/-- Asks are read back in order. -/
theorem parseAsks_bytes {asks : List Ask} (h : ∀ a ∈ asks, a.Fits) : parseAsks asks.length (asks.flatMap Ask.bytes) = some asks := by
  induction asks with
  | nil => rfl
  | cons a asks ih =>
    have rest := ih fun b hb => h b (List.mem_cons_of_mem _ hb)
    have fits := h a List.mem_cons_self
    have read (kind tag : Byte) {v : Nat} (hv : v < 2 ^ 64) {b : Ask}
        (hb : (if kind = 0x01 then some (Ask.date tag v) else if kind = 0x02 then some (Ask.fence tag v) else none) = some b) :
        parseAsks (asks.length + 1) (kind :: tag :: (beBytes 8 v ++ asks.flatMap Ask.bytes)) = some (b :: asks) := by
      have value : (beBytes 8 v ++ asks.flatMap Ask.bytes).take 8 = beBytes 8 v := List.take_left' (beBytes_length 8 v)
      have after : (beBytes 8 v ++ asks.flatMap Ask.bytes).drop 8 = asks.flatMap Ask.bytes := List.drop_left' (beBytes_length 8 v)
      rw [parseAsks, value, after, rest, beNat_beBytes hv, hb]
    cases a with
    | date tag c => exact read 0x01 tag fits rfl
    | fence tag l => exact read 0x02 tag fits rfl

/-! ## The frame of a Reply -/

/-- The fields of a Reply after slot and sequence. -/
def Reply.body (r : Reply) : List Byte :=
  beBytes 8 r.t2 ++ beBytes 8 r.t3 ++
    [(if r.holding then 0x01 else 0x00) ||| (if r.restarted then 0x02 else 0x00), ackByte r.ack, BitVec.ofNat 8 r.asks.length] ++
    r.asks.flatMap Ask.bytes

theorem replyBytes_eq (slot sequence : Byte) (r : Reply) :
    replyBytes slot sequence r = (busFrame 0x02 (slot :: sequence :: r.body)).tail := by
  simp [replyBytes, Reply.body]

theorem Reply.body_length (r : Reply) : r.body.length = 19 + 10 * r.asks.length := by
  simp only [Reply.body, List.length_append, beBytes_length, asks_length, List.length_cons, List.length_nil]

/-- The body of a Reply is read back. -/
theorem parseReplyFields_body {r : Reply} (h2 : r.t2 < 2 ^ 64) (h3 : r.t3 < 2 ^ 64) (few : r.asks.length ≤ 3)
    (fit : ∀ a ∈ r.asks, a.Fits) : parseReplyFields (r.body.length + 2) r.body = some r := by
  have count : (BitVec.ofNat 8 r.asks.length).toNat = r.asks.length := by rw [BitVec.toNat_ofNat]; omega
  obtain ⟨holding, restarted⟩ := replyFlags_bits r.holding r.restarted
  have body : r.body = beBytes 8 r.t2 ++ (beBytes 8 r.t3 ++
      (((if r.holding then 0x01 else 0x00) ||| (if r.restarted then 0x02 else 0x00)) :: ackByte r.ack :: BitVec.ofNat 8 r.asks.length ::
        r.asks.flatMap Ask.bytes)) := by simp [Reply.body]
  have length := r.body_length
  generalize hb : r.body = b at *
  have first : b.take 8 = beBytes 8 r.t2 := body ▸ List.take_left' (beBytes_length 8 _)
  have second : (b.drop 8).take 8 = beBytes 8 r.t3 := by
    rw [body, List.drop_left' (beBytes_length 8 _), List.take_left' (beBytes_length 8 _)]
  have rest : b.drop 16 = ((if r.holding then 0x01 else 0x00) ||| (if r.restarted then 0x02 else 0x00)) :: ackByte r.ack ::
      BitVec.ofNat 8 r.asks.length :: r.asks.flatMap Ask.bytes := by
    rw [body, ← List.append_assoc, List.drop_left' (by simp)]
  have byte (k : Nat) : b.getD (16 + k) 0 = (b.drop 16).getD k 0 := by simp [List.getD_eq_getElem?_getD]
  have asks : b.drop 19 = r.asks.flatMap Ask.bytes := by
    rw [show 19 = 16 + 3 from rfl, ← List.drop_drop, rest]
    rfl
  unfold parseReplyFields
  dsimp only
  rw [byte 0, byte 1, byte 2, rest, asks, first, second]
  simp only [List.getD_cons_zero, List.getD_cons_succ]
  rw [count, if_neg (by omega), parseAck_ackByte, parseAsks_bytes fit, beNat_beBytes h2, beNat_beBytes h3, holding, restarted]

/-- The first three checks of R87 on a frame whose check holds and whose type is a Reply's, with bytes after it (R170, R171). -/
theorem parseReply_frame {gotSlot gotSequence : Byte} {body : List Byte} (short : body.length + 2 < 256) (slot sequence : Byte)
    (extra : List Byte) : parseReply slot sequence ((busFrame 0x02 (gotSlot :: gotSequence :: body)).tail ++ extra) =
      if gotSlot ≠ slot ∨ gotSequence ≠ sequence then .error .stray
      else if extra ≠ [] then .error .overrun
      else match parseReplyFields (body.length + 2) body with
        | some r => .ok r
        | none => .error .overrun := by
  let fields := gotSlot :: gotSequence :: body
  let length : Byte := BitVec.ofNat 8 fields.length
  have count : length.toNat = fields.length := by
    rw [BitVec.toNat_ofNat]
    exact Nat.mod_eq_of_lt short
  have received : (busFrame 0x02 fields).tail ++ extra = 0x02 :: length :: (fields ++ (checkBytes (0x02 :: length :: fields) ++ extra)) := by
    simp [busFrame, length]
  have read : (fields ++ (checkBytes (0x02 :: length :: fields) ++ extra)).take length.toNat = fields := by
    rw [count]; exact List.take_left
  have after : (fields ++ (checkBytes (0x02 :: length :: fields) ++ extra)).drop length.toNat = checkBytes (0x02 :: length :: fields) ++ extra := by
    rw [count]; exact List.drop_left
  have check : (checkBytes (0x02 :: length :: fields) ++ extra).take 2 = checkBytes (0x02 :: length :: fields) :=
    List.take_left' (checkBytes_length _)
  have more : 2 < (checkBytes (0x02 :: length :: fields) ++ extra).length ↔ extra ≠ [] := by
    rw [List.length_append, checkBytes_length, ← List.length_pos_iff]
    omega
  rw [received, parseReply]
  rw [read, after, check, if_neg (by simp; omega), if_neg (by simp), count]
  show (if gotSlot ≠ slot ∨ gotSequence ≠ sequence then _ else if 2 < _ then _ else _) = _
  exact if_congr Iff.rfl rfl (if_congr more rfl rfl)

/-! ## The mark frame (R172, R173) -/

/-- The bytes that the check of a mark frame covers. -/
def MarkFields.covered (m : MarkFields) : List Byte := 0x0C :: (beBytes 8 m.label ++ beBytes 4 m.declaredU)

theorem MarkFields.covered_length (m : MarkFields) : m.covered.length = 13 := by
  simp [MarkFields.covered]

theorem parseMark_markBytes {m : MarkFields} (hl : m.label < 2 ^ 64) (hu : m.declaredU < 2 ^ 32) : parseMark (markBytes m) = some m := by
  have frame : markBytes m = m.covered ++ checkBytes m.covered := rfl
  have covered : (markBytes m).take 13 = m.covered := frame ▸ List.take_left' m.covered_length
  have check : (markBytes m).drop 13 = checkBytes m.covered := frame ▸ List.drop_left' m.covered_length
  have length : (markBytes m).length = 15 := by rw [frame, List.length_append, m.covered_length, checkBytes_length]
  have rest : (markBytes m).drop 1 = beBytes 8 m.label ++ (beBytes 4 m.declaredU ++ checkBytes m.covered) := by
    rw [frame, MarkFields.covered, List.cons_append, List.append_assoc]
    rfl
  have label : ((markBytes m).drop 1).take 8 = beBytes 8 m.label := rest ▸ List.take_left' (beBytes_length 8 _)
  have declared : ((markBytes m).drop 9).take 4 = beBytes 4 m.declaredU := by
    rw [show 9 = 1 + 8 from rfl, ← List.drop_drop, rest, List.drop_left' (beBytes_length 8 _), List.take_left' (beBytes_length 4 _)]
  unfold parseMark
  dsimp only
  rw [covered, check, label, declared, beNat_beBytes hl, beNat_beBytes hu, if_pos ⟨length, rfl, rfl⟩]

/-- Settles O51: each field stands where the layout puts it, and the check covers the frame that was sent. -/
theorem replyAndMarkFramesRoundTrip : Obligations.ReplyAndMarkFramesRoundTrip := by
  refine ⟨fun slot sequence r h2 h3 few fit => ?_, fun m hl hu => ⟨parseMark_markBytes hl hu, fun b => ?_⟩⟩
  · have fits (a : Ask) (ha : a ∈ r.asks) : a.Fits := by
      have := fit a ha
      cases a <;> exact this
    have body := parseReplyFields_body h2 h3 few fits
    have short : r.body.length + 2 < 256 := by rw [r.body_length]; omega
    have parsed (slot' sequence' : Byte) (extra : List Byte) := parseReply_frame (gotSlot := slot) (gotSequence := sequence) short slot' sequence' extra
    rw [replyBytes_eq]
    refine ⟨?_, fun b => ?_, fun slot' sequence' differ => ?_⟩
    · have whole := parsed slot sequence []
      rw [List.append_nil, if_neg (by simp), if_neg (by simp), body] at whole
      exact whole
    · rw [parsed, if_neg (by simp), if_pos (by simp)]
    · have whole := parsed slot' sequence' []
      rw [List.append_nil, if_pos (differ.imp Ne.symm Ne.symm)] at whole
      exact whole
  · have long : (markBytes m ++ [b]).length ≠ 15 := by
      rw [List.length_append, show markBytes m = m.covered ++ checkBytes m.covered from rfl, List.length_append, m.covered_length,
        checkBytes_length]
      simp
    unfold parseMark
    exact if_neg fun ⟨h, _⟩ => long h

end Sys2Proof.Machine

/-! PROOFS. Request frames on the management link's wires (R159, R169, R174, R176). -/

namespace Sys2Proof

open Sys2Proof.Machine

/-! ## Operand fields (R169) -/

/-- A field stands where its bytes stand. -/
theorem fieldAt_of {w k n : Nat} {l : List Byte} {v : BitVec w} (h : (l.drop k).take n = fieldBytes n v) (wide : 2 ^ w ≤ 256 ^ n) :
    fieldAt w l k n = v := by
  rw [fieldAt, h, fieldBytes, beNat_beBytes (v.isLt.trans_le wide), BitVec.ofNat_toNat, BitVec.setWidth_eq]

theorem followerOperandsAt_bytes (a b : Byte) (o : FollowerOperands) : followerOperandsAt ([a, b] ++ o.bytes) = o := by
  have wander : fieldAt 16 ([a, b] ++ o.bytes) 5 2 = o.wander := fieldAt_of rfl (by decide)
  have maxAge : fieldAt 32 ([a, b] ++ o.bytes) 8 4 = o.maxAge := fieldAt_of rfl (by decide)
  rw [followerOperandsAt, wander, maxAge]
  rfl

theorem rowOperandsAt_bytes (presence : Byte) (o : RowOperands) : rowOperandsAt (presence :: o.bytes) = o := by
  have stepLimit : fieldAt 32 (presence :: o.bytes) 1 4 = o.stepLimit := fieldAt_of rfl (by decide)
  have sanityLimit : fieldAt 32 (presence :: o.bytes) 5 4 = o.sanityLimit := fieldAt_of rfl (by decide)
  have urLimit : fieldAt 32 (presence :: o.bytes) 9 4 = o.urLimit := fieldAt_of rfl (by decide)
  have wander : fieldAt 32 (presence :: o.bytes) 14 4 = o.wander := fieldAt_of rfl (by decide)
  have waitMax : fieldAt 16 (presence :: o.bytes) 19 2 = o.waitMax := fieldAt_of rfl (by decide)
  rw [rowOperandsAt, stepLimit, sanityLimit, urLimit, wander, waitMax]
  rfl

theorem RackOperands.bytes_length (o : RackOperands) : o.bytes.length = 51 := by
  simp only [RackOperands.bytes, fieldBytes, List.length_append, beBytes_length, List.length_cons, List.length_nil]

theorem rackOperandsAt_bytes (rack : Byte) (presence : BitVec 24) (o : RackOperands) :
    rackOperandsAt ([rack] ++ fieldBytes 3 presence ++ o.bytes) = o := by
  simp only [RackOperands.bytes, List.append_assoc, List.cons_append, List.nil_append]
  generalize hl : List.cons rack _ = l
  have replyWindow : fieldAt 16 l 5 2 = o.replyWindow := fieldAt_of (hl ▸ rfl) (by decide)
  have asymmetry : fieldAt 32 l 7 4 = o.asymmetry := fieldAt_of (hl ▸ rfl) (by decide)
  have baseError : fieldAt 32 l 11 4 = o.baseError := fieldAt_of (hl ▸ rfl) (by decide)
  have delayCeiling : fieldAt 32 l 15 4 = o.delayCeiling := fieldAt_of (hl ▸ rfl) (by decide)
  have trustOffset : fieldAt 32 l 20 4 = o.trustOffset := fieldAt_of (hl ▸ rfl) (by decide)
  have dateCeiling : fieldAt 32 l 25 4 = o.dateCeiling := fieldAt_of (hl ▸ rfl) (by decide)
  have rackPenalty : fieldAt 32 l 29 4 = o.rackPenalty := fieldAt_of (hl ▸ rfl) (by decide)
  have leanRate : fieldAt 32 l 35 4 = o.leanRate := fieldAt_of (hl ▸ rfl) (by decide)
  have excessRate : fieldAt 32 l 39 4 = o.excessRate := fieldAt_of (hl ▸ rfl) (by decide)
  have leanOffset : fieldAt 32 l 43 4 = o.leanOffset := fieldAt_of (hl ▸ rfl) (by decide)
  have excessOffset : fieldAt 32 l 47 4 = o.excessOffset := fieldAt_of (hl ▸ rfl) (by decide)
  rw [rackOperandsAt, replyWindow, asymmetry, baseError, delayCeiling, trustOffset, dateCeiling, rackPenalty, leanRate, excessRate, leanOffset, excessOffset, ← hl]
  rfl

/-! ## Codes and operand bytes (R174) -/

/-- A frame is a known code with just its operand bytes, and they are those of the command. -/
def Instr.SpelledBy (c : Instr) (code : Byte) (operands : List Byte) : Prop :=
  operandCount code = some operands.length ∧ requestCommand code operands = c

/-- The three rows of AMEND-RACK by their enabled field (R76, R174). -/
theorem amendRackCommand_wf {c : Instr} {rack : Byte} {presence : BitVec 24} {o : RackOperands} (hc : c.wf = true)
    (h : c = .portEnable rack presence o ∨ c = .portDisable rack presence o ∨ c = .amendRackParameters rack presence o) :
    amendRackCommand rack presence o = c := by
  unfold amendRackCommand
  rcases h with rfl | rfl | rfl
  · exact if_pos hc
  · have off : marksEnabled presence o 0x00 = true := hc
    have on : ¬ marksEnabled presence o 0x01 = true := by
      intro on
      simp only [marksEnabled, Bool.and_eq_true_iff, beq_iff_eq] at on off
      rw [on.2] at off
      exact absurd off.2 (by decide)
    rw [if_neg on, if_pos off]
  · have neither : (!marksEnabled presence o 0x01 && !marksEnabled presence o 0x00) = true := hc
    rw [Bool.and_eq_true_iff, Bool.not_eq_true', Bool.not_eq_true'] at neither
    rw [if_neg (Bool.eq_false_iff.mp neither.1), if_neg (Bool.eq_false_iff.mp neither.2)]

theorem requestCommand_amendRack {c : Instr} {rack : Byte} {presence : BitVec 24} {o : RackOperands} (hc : c.wf = true)
    (h : c = .portEnable rack presence o ∨ c = .portDisable rack presence o ∨ c = .amendRackParameters rack presence o) :
    c.SpelledBy 0x21 ([rack] ++ fieldBytes 3 presence ++ o.bytes) := by
  have marks : fieldAt 24 ([rack] ++ fieldBytes 3 presence ++ o.bytes) 1 3 = presence := fieldAt_of rfl (by decide)
  have length : ([rack] ++ fieldBytes 3 presence ++ o.bytes).length = 55 := by
    rw [List.length_append, List.length_append, o.bytes_length, fieldBytes, beBytes_length]
    rfl
  refine ⟨length ▸ rfl, ?_⟩
  show amendRackCommand rack (fieldAt 24 ([rack] ++ fieldBytes 3 presence ++ o.bytes) 1 3) (rackOperandsAt _) = c
  rw [marks, rackOperandsAt_bytes]
  exact amendRackCommand_wf hc h

/-- Every request but an unknown code and a cut frame is spelled by its code and operand bytes. -/
theorem spelledBy_of_requestBytes {c : Instr} {bytes : List Byte} (hc : c.wf = true) (hb : requestBytes c = some bytes)
    (unknown : ∀ code, c ≠ .unknownRequest code) (abort : ∀ clocked, c ≠ .managementFrameAbort clocked) :
    ∃ code operands, bytes = code :: operands ∧ c.SpelledBy code operands := by
  cases c
  all_goals try (simp only [requestBytes, reduceCtorEq] at hb; done)
  all_goals cases hb
  case unknownRequest code => exact absurd rfl (unknown code)
  case managementFrameAbort => exact absurd rfl (abort bytes)
  case enrol port slot o => exact ⟨_, _, rfl, rfl, congrArg (Instr.enrol port slot) (followerOperandsAt_bytes port slot o)⟩
  case amendFollower b presence o => exact ⟨_, _, rfl, rfl, congrArg (Instr.amendFollower b presence) (followerOperandsAt_bytes b presence o)⟩
  case portEnable rack presence o => exact ⟨_, _, rfl, requestCommand_amendRack hc (.inl rfl)⟩
  case portDisable rack presence o => exact ⟨_, _, rfl, requestCommand_amendRack hc (.inr (.inl rfl))⟩
  case amendRackParameters rack presence o => exact ⟨_, _, rfl, requestCommand_amendRack hc (.inr (.inr rfl))⟩
  case amendRow presence o => exact ⟨_, _, rfl, rfl, congrArg (Instr.amendRow presence) (rowOperandsAt_bytes presence o)⟩
  case amendReference r compensation ceiling fixedU =>
    let operands := [r] ++ fieldBytes 4 compensation ++ fieldBytes 4 ceiling ++ fieldBytes 4 fixedU
    have first : fieldAt 32 operands 1 4 = compensation := fieldAt_of rfl (by decide)
    have second : fieldAt 32 operands 5 4 = ceiling := fieldAt_of rfl (by decide)
    have third : fieldAt 32 operands 9 4 = fixedU := fieldAt_of rfl (by decide)
    refine ⟨0x34, operands, rfl, rfl, ?_⟩
    show Instr.amendReference r (fieldAt 32 operands 1 4) (fieldAt 32 operands 5 4) (fieldAt 32 operands 9 4) = _
    rw [first, second, third]
  case setEventMask mask => exact ⟨_, _, rfl, rfl, congrArg Instr.setEventMask (fieldAt_of rfl (by decide))⟩
  all_goals exact ⟨_, _, rfl, rfl, rfl⟩

/-! ## The command of a frame (R159) -/

section Frame

variable {c : Instr} {code : Byte} {operands : List Byte}

/-- Once the operands are in, the frame is the command, whatever follows. -/
theorem Instr.SpelledBy.complete (h : c.SpelledBy code operands) (extra : List Byte) : frameCommand (code :: operands ++ extra) = c := by
  have rest : ¬ (operands ++ extra).length < operands.length := by simp
  rw [List.cons_append, frameCommand]
  simp only [h.1]
  rw [if_neg rest, List.take_left]
  exact h.2

/-- A frame cut before its last operand byte is discarded. -/
theorem Instr.SpelledBy.cut (h : c.SpelledBy code operands) {n : Nat} (hn : n < (code :: operands).length) :
    frameCommand ((code :: operands).take n) = .managementFrameAbort ((code :: operands).take n) := by
  cases n with
  | zero => rfl
  | succ n =>
    have few : (operands.take n).length < operands.length := by
      rw [List.length_take]
      exact (Nat.min_le_left _ _).trans_lt (Nat.lt_of_succ_lt_succ hn)
    rw [List.take_succ_cons, frameCommand]
    simp only [h.1]
    exact if_pos few

end Frame

theorem frameCommand_unknown {code : Byte} (h : operandCount code = none) (extra : List Byte) :
    frameCommand (code :: extra) = .unknownRequest code := by
  rw [frameCommand]
  simp only [h]

theorem frameCommand_incomplete {clocked : List Byte} (h : frameIncomplete clocked = true) :
    frameCommand clocked = .managementFrameAbort clocked := by
  unfold frameIncomplete at h
  cases clocked with
  | nil => rfl
  | cons code operands =>
    rw [frameCommand]
    cases hn : operandCount code with
    | none => simp [hn] at h
    | some n =>
      simp only [hn, decide_eq_true_eq] at h
      exact if_pos h

/-- The frame of a request, whole, longer or cut (R159). -/
theorem frameCommand_request {c : Instr} {bytes : List Byte} (hc : c.wf = true) (hb : requestBytes c = some bytes)
    (abort : ∀ clocked, c ≠ .managementFrameAbort clocked) :
    (∀ extra, frameCommand (bytes ++ extra) = c) ∧
    ∀ n, n < bytes.length → frameCommand (bytes.take n) = .managementFrameAbort (bytes.take n) := by
  by_cases unknown : ∀ code, c ≠ .unknownRequest code
  · obtain ⟨code, operands, rfl, spelled⟩ := spelledBy_of_requestBytes hc hb unknown abort
    exact ⟨spelled.complete, fun n => spelled.cut⟩
  · obtain ⟨code, rfl⟩ := not_forall_not.mp unknown
    cases hb
    refine ⟨frameCommand_unknown (Option.isNone_iff_eq_none.mp hc), fun n hn => ?_⟩
    rw [show n = 0 by simpa using hn]
    rfl

end Sys2Proof

namespace Sys2Proof.Machine

/-! ## The wires (R159) -/

/-- A request leaves its own frame taken, with nothing shifted (log entry 14). -/
theorem exec_request_frame {c : Instr} {bytes : List Byte} {s t : State} (hb : requestBytes c = some bytes)
    (abort : ∀ clocked, c ≠ .managementFrameAbort clocked) (h : exec c s = .next t) : t.link.frame = .taken 0 := by
  have effect := exec_effect h
  cases effect
  all_goals try (simp only [requestBytes, reduceCtorEq] at hb; done)
  case abort clocked => exact absurd rfl (abort clocked)
  case stays hn => rw [hn] at hb; cases hb
  all_goals rfl

theorem State.clockByte_of_receiving {s : State} {clocked : List Byte} (h : s.link.frame = .receiving clocked) (b : Byte) :
    s.linkEvent (.byte b) = s.receiveByte (clocked ++ [b]) := by
  show s.clockByte b = _
  unfold State.clockByte
  rw [h]

/-- Settles O50: a request is spelled by its code and operand bytes, and the link takes it with the last of them. -/
theorem requestFramesRoundTrip : Obligations.RequestFramesRoundTrip := by
  refine ⟨fun c bytes hc hb => ?_, fun s => ?_⟩
  · by_cases abort : ∀ clocked, c ≠ .managementFrameAbort clocked
    · obtain ⟨whole, cut⟩ := frameCommand_request hc hb abort
      have itself : frameCommand bytes = c := by simpa using whole []
      refine ⟨itself, fun _ => ⟨whole, cut, fun s t => exec_request_frame hb abort, fun s clocked b hf => ⟨fun e => ?_, fun n hn e => ?_⟩⟩⟩
      · rw [State.clockByte_of_receiving hf, e, State.receiveByte_of_request s (itself ▸ abort), itself]
      · rw [State.clockByte_of_receiving hf]
        exact State.receiveByte_of_abort s ((congrArg frameCommand e).trans (cut n hn))
    · obtain ⟨clocked, rfl⟩ := not_forall_not.mp abort
      cases hb
      exact ⟨frameCommand_incomplete hc, fun no => absurd rfl (no _)⟩
  · refine ⟨?_, rfl, fun b hf => ?_, fun b n hf => ?_, fun clocked hf => ?_, fun n hf => ⟨fun h => ?_, fun h => ?_⟩⟩
    · refine congrArg Host.Outcome.next ?_
      split
      · exact State.selectLink_of_closed ‹_›
      · exact State.selectLink_of_open ‹_›
    · show s.clockByte b = _
      unfold State.clockByte
      rcases hf with hf | hf <;> rw [hf]
    · show s.clockByte b = _
      unfold State.clockByte
      rw [hf]
      rfl
    all_goals rw [State.mdo, hf]
    · exact congrArg some (List.getD_eq_getElem _ _ h)
    · exact congrArg some (List.getD_eq_default _ _ h)

end Sys2Proof.Machine
